-- ==== Sys2Proof/Word.lean ====
section
/-! DEFINITION. The byte, the one word type of the block: every value on the serial link is a whole
unsigned 8-bit byte (00_scope R8, 20_memory R81). -/

namespace Sys2Proof

/-- An unsigned 8-bit byte, bit 0 least significant (00_scope R8). -/
abbrev Byte := BitVec 8

end Sys2Proof
end

