-- ==== Sys2Proof/Config.lean ====
section
/-! DEFINITION. What is fixed outside the running block: the free values (what the chip, the link and the
clock answer), the constants and parameters of 00_scope R7 (CMD, REG and BITS among them), the names of the chip's
registers (20_memory R62), the pipe numbers, and the radio configuration the host supplies (10_state R30). -/

namespace Sys2Proof

/-! ## Free values: nothing in Lean can evaluate or prove a value of these -/

/-- The byte the chip returns at the `n`-th byte exchanged, when no byte is queued for it:
a draw under no law (20_memory R60, 93 I1). -/
opaque Config.chipByte : Nat → Byte

/-- Whether the `n`-th call of the duplex primitive fails, when no answer is queued for it:
a draw (10_state R21, 93 I18). -/
opaque Config.ioFails : Nat → Bool

/-- How far the clock has advanced at its `n`-th reading, when no advance is queued for it:
a draw; an advance is never negative, so readings are monotonic (10_state R23, 93 I2). -/
opaque Config.clockAdvance : Nat → Nat

/-! ## Constants of 00_scope R7 that the source states -/

/-- MAX_PAYLOAD, in bytes. -/
def Config.maxPayload : Nat := 32

/-- T_CE_PULSE_US, the least width of the chip-enable pulse. -/
def Config.cePulseUs : Nat := 25

/-- T_SETTLE_US, the least wait before the final status read. -/
def Config.settleUs : Nat := 50

/-- WINDOW_FACTOR: a link-quality window is this many attempts charged in full. -/
def Config.windowFactor : Nat := 100

/-- FREQ_BASE_MHZ, the frequency of channel 0. -/
def Config.freqBaseMhz : Nat := 2400

/-! ## The chip's registers and pipes -/

/-- The 26 named registers of the chip (20_memory R62, R63; 90_conflicts C1). The six unnamed addresses
have no constructor: the register-address type cannot represent them (30_encoding R110). -/
inductive Reg where
  | config | enAa | enRxaddr | setupAw | setupRetr | rfCh | rfSetup | status | observeTx | rpd
  | rxAddrP0 | rxAddrP1 | rxAddrP2 | rxAddrP3 | rxAddrP4 | rxAddrP5
  | txAddr
  | rxPwP0 | rxPwP1 | rxPwP2 | rxPwP3 | rxPwP4 | rxPwP5
  | fifoStatus | dynpd | feature
  deriving DecidableEq, Repr

/-- The pipe index of an acknowledgment payload, 0..5: pipes 6 and 7 have no constructor
(30_encoding R102, R110). -/
inductive Pipe where
  | p0 | p1 | p2 | p3 | p4 | p5
  deriving DecidableEq, Repr

/-- The twelve registers the configuration sequencer writes (42_configuration R225). -/
inductive CfgReg where
  | config | enAa | enRxaddr | setupAw | setupRetr | rfCh | rfSetup | txAddr | rxAddrP0 | rxPwP0
  | dynpd | feature
  deriving DecidableEq, Repr

/-! ## The parameters CMD, REG and BITS (00_scope R7; decisions D2, D3, D4; 93 section 2) -/

/-- CMD: the command byte values the spec takes from the datasheet (30_encoding R104, 93 G2). The tags of READ and
WRITE are stated by the source and so are no parameter (AccessKind.tag in Decode). -/
structure CommandSet where
  readPayload : Byte
  writePayload : Byte
  writePayloadNoAck : Byte
  /-- The tag, bits 7:3 of the command byte (R102). -/
  writeAckPayload : BitVec 5
  flushTx : Byte
  flushRx : Byte
  reuseTxPayload : Byte
  readPayloadWidth : Byte
  nop : Byte
  deriving DecidableEq, Repr

/-- REG: the register address map, the address of each named register (20_memory R63, 93 G3). -/
structure RegisterMap where
  config : BitVec 5
  enAa : BitVec 5
  enRxaddr : BitVec 5
  setupAw : BitVec 5
  setupRetr : BitVec 5
  rfCh : BitVec 5
  rfSetup : BitVec 5
  status : BitVec 5
  observeTx : BitVec 5
  rpd : BitVec 5
  rxAddrP0 : BitVec 5
  rxAddrP1 : BitVec 5
  rxAddrP2 : BitVec 5
  rxAddrP3 : BitVec 5
  rxAddrP4 : BitVec 5
  rxAddrP5 : BitVec 5
  txAddr : BitVec 5
  rxPwP0 : BitVec 5
  rxPwP1 : BitVec 5
  rxPwP2 : BitVec 5
  rxPwP3 : BitVec 5
  rxPwP4 : BitVec 5
  rxPwP5 : BitVec 5
  fifoStatus : BitVec 5
  dynpd : BitVec 5
  feature : BitVec 5
  deriving DecidableEq, Repr

/-- BITS: the place of each register field, the place of its lowest bit (20_memory R66 to R79, 93 G4), and the codes
of CRC width and data rate (93 G14). The widths of the fields, the FEATURE bits 2, 1, 0 and the width code + 2 are
stated by the source and so are no parameter. -/
structure FieldPositions where
  /-- STATUS (R66). -/
  statusDataReady : Fin 8
  statusDataSent : Fin 8
  statusMaxRetransmit : Fin 8
  statusPipe : Fin 8
  statusTxFull : Fin 8
  /-- CONFIG (R67). -/
  configIrqMask : Fin 8
  configCrc : Fin 8
  configPowerUp : Fin 8
  configPrimRx : Fin 8
  /-- EN_CRC and CRCO for 0, 1 and 2 CRC bytes (42_configuration R214). -/
  crcNone : BitVec 2
  crcOneByte : BitVec 2
  crcTwoBytes : BitVec 2
  /-- EN_AA, EN_RXADDR (R68, R69): pipe 0's place. -/
  enAaPipe0 : Fin 8
  enRxaddrPipe0 : Fin 8
  /-- SETUP_AW, SETUP_RETR, RF_CH (R70, R71, R72). -/
  addressWidth : Fin 8
  retransmitDelay : Fin 8
  retransmitCount : Fin 8
  channel : Fin 8
  /-- RF_SETUP (R73), the data rate as the register's rate bits (42_configuration R220). -/
  continuousWave : Fin 8
  outputPower : Fin 8
  rate1M : Byte
  rate2M : Byte
  rate250K : Byte
  /-- OBSERVE_TX, RPD, FIFO_STATUS (R74, R75, R76). -/
  observeLost : Fin 8
  observeRetransmits : Fin 8
  rpd : Fin 8
  fifoTxReuse : Fin 8
  fifoTxFull : Fin 8
  fifoTxEmpty : Fin 8
  fifoRxFull : Fin 8
  fifoRxEmpty : Fin 8
  /-- DYNPD (R77), RX_PW_P0 (R79). -/
  dynpdPipe0 : Fin 8
  payloadWidth : Fin 8
  deriving DecidableEq, Repr

/-- The values of 30_encoding R104. -/
def CommandSet.default : CommandSet where
  readPayload := 0x61
  writePayload := 0xA0
  writePayloadNoAck := 0xB0
  writeAckPayload := 0b10101
  flushTx := 0xE1
  flushRx := 0xE2
  reuseTxPayload := 0xE3
  readPayloadWidth := 0x60
  nop := 0xFF

/-- The map of 20_memory R63. -/
def RegisterMap.default : RegisterMap where
  config := 0x00
  enAa := 0x01
  enRxaddr := 0x02
  setupAw := 0x03
  setupRetr := 0x04
  rfCh := 0x05
  rfSetup := 0x06
  status := 0x07
  observeTx := 0x08
  rpd := 0x09
  rxAddrP0 := 0x0A
  rxAddrP1 := 0x0B
  rxAddrP2 := 0x0C
  rxAddrP3 := 0x0D
  rxAddrP4 := 0x0E
  rxAddrP5 := 0x0F
  txAddr := 0x10
  rxPwP0 := 0x11
  rxPwP1 := 0x12
  rxPwP2 := 0x13
  rxPwP3 := 0x14
  rxPwP4 := 0x15
  rxPwP5 := 0x16
  fifoStatus := 0x17
  dynpd := 0x1C
  feature := 0x1D

/-- The places of 20_memory R66 to R79 and the codes of 42_configuration R214 and R220. -/
def FieldPositions.default : FieldPositions where
  statusDataReady := 6
  statusDataSent := 5
  statusMaxRetransmit := 4
  statusPipe := 1
  statusTxFull := 0
  configIrqMask := 4
  configCrc := 2
  configPowerUp := 1
  configPrimRx := 0
  crcNone := 0b00
  crcOneByte := 0b10
  crcTwoBytes := 0b11
  enAaPipe0 := 0
  enRxaddrPipe0 := 0
  addressWidth := 0
  retransmitDelay := 4
  retransmitCount := 0
  channel := 0
  continuousWave := 7
  outputPower := 1
  rate1M := 0x00
  rate2M := 0x08
  rate250K := 0x20
  observeLost := 4
  observeRetransmits := 0
  rpd := 0
  fifoTxReuse := 6
  fifoTxFull := 5
  fifoTxEmpty := 4
  fifoRxFull := 1
  fifoRxEmpty := 0
  dynpdPipe0 := 0
  payloadWidth := 0

/-! ## The parameters of the block (00_scope R7, 93 I4..I7) -/

/-- The parameters of the block that the source does not fix. They are constant over a run; the model holds them in
State so that a statement about every state is a statement about every value of them. -/
structure Params where
  /-- CMD. -/
  cmd : CommandSet
  /-- REG. -/
  reg : RegisterMap
  /-- BITS. -/
  bits : FieldPositions
  /-- T_POWERUP_US, default 10 000 us. -/
  powerupUs : Nat
  /-- T_POLL_INTERVAL_US, default 0 us. -/
  pollIntervalUs : Nat
  /-- CONFIG_WRITE_ORDER, any permutation of the twelve writes. -/
  configWriteOrder : List CfgReg
  /-- CLOCK_BITS, unbounded when none. -/
  clockBits : Option Nat
  deriving DecidableEq, Repr

/-- The default write order, the order of 42_configuration R225's table. -/
def CfgReg.listedOrder : List CfgReg :=
  [.config, .enAa, .enRxaddr, .setupAw, .setupRetr, .rfCh, .rfSetup, .txAddr, .rxAddrP0, .rxPwP0,
    .dynpd, .feature]

/-- The default values of the parameters (00_scope R7). -/
def Params.default : Params where
  cmd := .default
  reg := .default
  bits := .default
  powerupUs := 10000
  pollIntervalUs := 0
  configWriteOrder := CfgReg.listedOrder
  clockBits := none

/-! ## The radio configuration (10_state R30) -/

/-- The radio's mode, written to the CONFIG mode bit; no privilege mode (60_exceptions R381). -/
inductive RadioMode where
  | transmitter | receiver
  deriving DecidableEq, Repr, Inhabited

/-- The on-air data rate. -/
inductive DataRate where
  | rate250K | rate1M | rate2M
  deriving DecidableEq, Repr, Inhabited

/-- One RadioConfiguration, the operand of INITIALIZE: 10_state R30's table, one field a row. A field whose
values the table bounds is a natural number, so that an ill-formed configuration can be offered and refused
(R31); the defaults are those R30 and decision D9 give. -/
structure RadioConfiguration where
  mode : RadioMode
  crcWidth : Nat
  /-- Bit 2 masks DATA_READY, bit 1 DATA_SENT, bit 0 MAX_RETRANSMIT (42_configuration R214). -/
  irqMask : BitVec 3 := 0
  powerUp : Bool := true
  autoAckMask : BitVec 6 := 1
  retransmitDelay : Nat
  retransmitCount : Nat
  channel : Nat
  dataRate : DataRate
  outputPower : Nat
  continuousWave : Bool := false
  addressWidth : Nat
  address : List Byte
  staticPayloadWidth : Nat
  dynamicPayload : Bool
  ackPayload : Bool
  dynamicAck : Bool
  txReuse : Bool
  txTimeoutUs : Nat := 7000
  deriving DecidableEq, Repr, Inhabited

/-- FREE VALUE: the configuration a micro-step reads when none is latched (93 I17); nothing constrains it, and no run
of host operations from reset reads it (notes/assumptions/9.md). -/
opaque Config.unlatchedConfiguration : RadioConfiguration

end Sys2Proof
end

