-- ==== Sys2Proof/Syntax.lean ====
section
/-! DEFINITION. The instructions: one constructor per row of spec/opcode_table.json, the chip commands of
30_encoding R104, each with the operands 40_commands gives it. The host operations of R120 have no binary
encoding (R121) and are not instructions; they are HostOp in Machine/State.lean. -/

namespace Sys2Proof

/-- A chip command with its operands (40_commands R140..R150; syntax of 30_encoding R113). The data block is
an operand: the command byte carries no length (R107), the length is fixed by the command and the caller. -/
inductive Instr where
  /-- `READ <reg>` of `n` data bytes (R140). -/
  | read (r : Reg) (n : Nat)
  /-- `WRITE <reg>, [<bytes>]` (R141). -/
  | write (r : Reg) (v : List Byte)
  /-- `READ_PAYLOAD <n>` (R142). -/
  | readPayload (n : Nat)
  /-- `WRITE_PAYLOAD [<bytes>]` (R143). -/
  | writePayload (p : List Byte)
  /-- `WRITE_PAYLOAD_NO_ACK [<bytes>]` (R144). -/
  | writePayloadNoAck (p : List Byte)
  /-- `WRITE_ACK_PAYLOAD <pipe>, [<bytes>]` (R145). -/
  | writeAckPayload (pipe : Pipe) (p : List Byte)
  /-- `FLUSH_TX` (R146). -/
  | flushTx
  /-- `FLUSH_RX` (R147). -/
  | flushRx
  /-- `REUSE_TX_PAYLOAD` (R148). -/
  | reuseTxPayload
  /-- `READ_PAYLOAD_WIDTH`, one data byte (R149). -/
  | readPayloadWidth
  /-- `NOP` (R150). -/
  | nop
  deriving DecidableEq, Repr

end Sys2Proof
end

