-- ==== Sys2Proof/WellFormed.lean ====
section
/-! DEFINITION. Which commands are well formed: the data block has a length 30_encoding R112 and 20_memory
R63, R64, R84 admit for the command. Pipes and register addresses are well formed by their types (R110). -/

namespace Sys2Proof

/-- The least data length of a register access: an address register takes exactly `aw + 2` bytes, that is 3, 4 or 5
by its width code, every other register 1 (20_memory R63, R64, R82). -/
def Reg.minSize : Reg → Nat
  | .rxAddrP0 | .rxAddrP1 | .txAddr => 3
  | _ => 1

/-- The greatest data length of a register access (20_memory R63, R64, R82). -/
def Reg.maxSize : Reg → Nat
  | .rxAddrP0 | .rxAddrP1 | .txAddr => 5
  | _ => 1

/-- A register is read or written whole (20_memory R82). -/
def Reg.admits (r : Reg) (n : Nat) : Bool :=
  decide (r.minSize ≤ n) && decide (n ≤ r.maxSize)

/-- A payload is 1..32 bytes (30_encoding R112; 00_scope R7 MIN_PAYLOAD, MAX_PAYLOAD). -/
def payloadAdmits (n : Nat) : Bool :=
  decide (1 ≤ n) && decide (n ≤ Config.maxPayload)

/-- The command has a data block of a length its rule admits (30_encoding R112). -/
def WellFormed : Instr → Bool
  | .read r n => r.admits n
  | .write r v => r.admits v.length
  | .readPayload n => payloadAdmits n
  | .writePayload p => payloadAdmits p.length
  | .writePayloadNoAck p => payloadAdmits p.length
  | .writeAckPayload _ p => payloadAdmits p.length
  | .flushTx => true
  | .flushRx => true
  | .reuseTxPayload => true
  | .readPayloadWidth => true
  | .nop => true

end Sys2Proof
end

