-- ==== Sys2Proof/Decode.lean ====
section
/-! DEFINITION. The encoding of the chip commands: the table of 30_encoding R104, the decoder of a
chip-select window (R111), and the encoder (R105, R106, R112) written from the same table. -/

namespace Sys2Proof

/-- Why a window is no command of the block (30_encoding R110, R111). -/
inductive DecodeError where
  /-- A window without a command byte: every transaction begins with exactly one (R100). -/
  | emptyWindow
  /-- A command byte that matches no row of R104's table. -/
  | unknownCommand (b : Byte)
  /-- READ or WRITE of an address that is not one of the 26 named ones. -/
  | unnamedRegister (a : BitVec 5)
  /-- WRITE_ACK_PAYLOAD with pipe 6 or 7. -/
  | pipeRefused (p : BitVec 3)
  /-- A data block of a length the command does not admit (R112). -/
  | wrongLength (b : Byte) (d : Nat)
  deriving DecidableEq, Repr

/-! ## The table -/

/-- The eleven opcodes (30_encoding R104). -/
inductive Opcode where
  | read | write | readPayload | writePayload | writePayloadNoAck | writeAckPayload
  | flushTx | flushRx | reuseTxPayload | readPayloadWidth | nop
  deriving DecidableEq, Repr

/-- One row of the table: a byte `b` is this command when `b &&& mask = code`. -/
structure OpcodeRow where
  op : Opcode
  code : Byte
  mask : Byte
  deriving DecidableEq, Repr

/-- The two kinds of register access (30_encoding R105). -/
inductive AccessKind where
  | read | write
  deriving DecidableEq, Repr

/-- The opcode tag of a register access, bits 7:5: stated by the source, so no parameter (30_encoding R101). -/
def AccessKind.tag : AccessKind → BitVec 3
  | .read => 0b000
  | .write => 0b001

/-- A register access's command byte but for the address (30_encoding R105). -/
def AccessKind.code (k : AccessKind) : Byte := k.tag.setWidth 8 <<< 5

/-- The match column of 30_encoding R104, for a value set CMD. -/
def Opcode.code (c : CommandSet) : Opcode → Byte
  | .read => AccessKind.read.code
  | .write => AccessKind.write.code
  | .readPayload => c.readPayload
  | .writePayload => c.writePayload
  | .writePayloadNoAck => c.writePayloadNoAck
  | .writeAckPayload => c.writeAckPayload.setWidth 8 <<< 3
  | .flushTx => c.flushTx
  | .flushRx => c.flushRx
  | .reuseTxPayload => c.reuseTxPayload
  | .readPayloadWidth => c.readPayloadWidth
  | .nop => c.nop

/-- The mask column of 30_encoding R104: the tag of format RA, the tag of format PA, all of format F (R101..R103). -/
def Opcode.mask : Opcode → Byte
  | .read => 0xE0
  | .write => 0xE0
  | .writeAckPayload => 0xF8
  | .readPayload => 0xFF
  | .writePayload => 0xFF
  | .writePayloadNoAck => 0xFF
  | .flushTx => 0xFF
  | .flushRx => 0xFF
  | .reuseTxPayload => 0xFF
  | .readPayloadWidth => 0xFF
  | .nop => 0xFF

/-- The opcodes, in the order of 30_encoding R104's table. -/
def Opcode.all : List Opcode :=
  [.read, .write, .readPayload, .writePayload, .writePayloadNoAck, .writeAckPayload, .flushTx, .flushRx,
    .reuseTxPayload, .readPayloadWidth, .nop]

/-- An opcode's row of the table. -/
def Opcode.row (c : CommandSet) (op : Opcode) : OpcodeRow := ⟨op, op.code c, op.mask⟩

/-- The table of 30_encoding R104, for a value set CMD. -/
def opcodeTable (c : CommandSet) : List OpcodeRow := Opcode.all.map (Opcode.row c)

/-- Whether a command byte matches a row. -/
def OpcodeRow.matches (r : OpcodeRow) (b : Byte) : Bool := b &&& r.mask == r.code

/-- The first row, in the table's order, that the byte matches (30_encoding R111). -/
def opcodeOf? (c : CommandSet) (b : Byte) : Option Opcode :=
  ((opcodeTable c).find? fun r => r.matches b).map OpcodeRow.op

/-- A register's address, in a map REG (20_memory R63). -/
def Reg.addr (m : RegisterMap) : Reg → BitVec 5
  | .config => m.config
  | .enAa => m.enAa
  | .enRxaddr => m.enRxaddr
  | .setupAw => m.setupAw
  | .setupRetr => m.setupRetr
  | .rfCh => m.rfCh
  | .rfSetup => m.rfSetup
  | .status => m.status
  | .observeTx => m.observeTx
  | .rpd => m.rpd
  | .rxAddrP0 => m.rxAddrP0
  | .rxAddrP1 => m.rxAddrP1
  | .rxAddrP2 => m.rxAddrP2
  | .rxAddrP3 => m.rxAddrP3
  | .rxAddrP4 => m.rxAddrP4
  | .rxAddrP5 => m.rxAddrP5
  | .txAddr => m.txAddr
  | .rxPwP0 => m.rxPwP0
  | .rxPwP1 => m.rxPwP1
  | .rxPwP2 => m.rxPwP2
  | .rxPwP3 => m.rxPwP3
  | .rxPwP4 => m.rxPwP4
  | .rxPwP5 => m.rxPwP5
  | .fifoStatus => m.fifoStatus
  | .dynpd => m.dynpd
  | .feature => m.feature

/-- Every named register, in the order of 20_memory R63's table. -/
def Reg.all : List Reg :=
  [.config, .enAa, .enRxaddr, .setupAw, .setupRetr, .rfCh, .rfSetup, .status, .observeTx, .rpd,
    .rxAddrP0, .rxAddrP1, .rxAddrP2, .rxAddrP3, .rxAddrP4, .rxAddrP5, .txAddr, .rxPwP0, .rxPwP1,
    .rxPwP2, .rxPwP3, .rxPwP4, .rxPwP5, .fifoStatus, .dynpd, .feature]

/-- The register named by an address, if one is (20_memory R63). -/
def Reg.ofAddr? (m : RegisterMap) (a : BitVec 5) : Option Reg := Reg.all.find? fun r => r.addr m == a

/-- The pipe index field of format PA (30_encoding R102). -/
def Pipe.index : Pipe → BitVec 3
  | .p0 => 0
  | .p1 => 1
  | .p2 => 2
  | .p3 => 3
  | .p4 => 4
  | .p5 => 5

/-- The six pipes. -/
def Pipe.all : List Pipe := [.p0, .p1, .p2, .p3, .p4, .p5]

/-- The pipe named by the index field; 6 and 7 are refused (30_encoding R110). -/
def Pipe.ofIndex? (p : BitVec 3) : Option Pipe := Pipe.all.find? fun q => q.index == p

/-- A value set that can be read back: no byte matches two rows of the command table, and no address names two
registers (30_encoding R111; 20_memory R62). -/
def Params.Unambiguous (p : Params) : Prop :=
  (∀ b : Byte, ∀ r₁ ∈ opcodeTable p.cmd, ∀ r₂ ∈ opcodeTable p.cmd,
    r₁.matches b = true → r₂.matches b = true → r₁ = r₂) ∧
  ∀ r₁ r₂ : Reg, r₁.addr p.reg = r₂.addr p.reg → r₁ = r₂

/-! ## The decoder: one chip-select window, one command (30_encoding R111) -/

/-- A command whose data block has a fixed length of `d` bytes. -/
def decodeExact (b : Byte) (d : Nat) (i : Instr) (ds : List Byte) : Except DecodeError Instr :=
  if ds.length = d then .ok i else .error (.wrongLength b ds.length)

/-- A register access: the address field must name a register and the length must be one it admits. -/
def decodeRegister (m : RegisterMap) (b : Byte) (mk : Reg → Instr) (d : Nat) : Except DecodeError Instr :=
  match Reg.ofAddr? m (b.extractLsb' 0 5) with
  | none => .error (.unnamedRegister (b.extractLsb' 0 5))
  | some r => if r.admits d then .ok (mk r) else .error (.wrongLength b d)

/-- A payload command: 1..32 data bytes. -/
def decodePayload (b : Byte) (d : Nat) (i : Instr) : Except DecodeError Instr :=
  if payloadAdmits d then .ok i else .error (.wrongLength b d)

/-- The command a window holds, given as the bytes the block sends in it, the command byte first. The window's
length is the only length there is (R112); what the block sends while it reads is filler and is not decoded. -/
def decode (p : Params) : List Byte → Except DecodeError Instr
  | [] => .error .emptyWindow
  | b :: ds =>
    match opcodeOf? p.cmd b with
    | none => .error (.unknownCommand b)
    | some .read => decodeRegister p.reg b (fun r => .read r ds.length) ds.length
    | some .write => decodeRegister p.reg b (fun r => .write r ds) ds.length
    | some .readPayload => decodePayload b ds.length (.readPayload ds.length)
    | some .writePayload => decodePayload b ds.length (.writePayload ds)
    | some .writePayloadNoAck => decodePayload b ds.length (.writePayloadNoAck ds)
    | some .writeAckPayload =>
      match Pipe.ofIndex? (b.extractLsb' 0 3) with
      | none => .error (.pipeRefused (b.extractLsb' 0 3))
      | some q => decodePayload b ds.length (.writeAckPayload q ds)
    | some .flushTx => decodeExact b 0 .flushTx ds
    | some .flushRx => decodeExact b 0 .flushRx ds
    | some .reuseTxPayload => decodeExact b 0 .reuseTxPayload ds
    | some .readPayloadWidth => decodeExact b 1 .readPayloadWidth ds
    | some .nop => decodeExact b 0 .nop ds

/-! ## The encoder -/

/-- FILLER, the byte sent while clocking out a read: the NOP command byte (41_channel R181). -/
def filler (p : Params) : Byte := p.cmd.nop

/-- compose_command of the register encoder: the tag in bits 7:5, the address in bits 4:0
(30_encoding R105, 90_conflicts C3). -/
def composeCommand (m : RegisterMap) (r : Reg) (k : AccessKind) : Byte := k.code ||| (r.addr m).setWidth 8

/-- compose_ack_command: the tag in bits 7:3, the pipe in bits 2:0 (30_encoding R106). -/
def composeAckCommand (c : CommandSet) (q : Pipe) : Byte :=
  Opcode.writeAckPayload.code c ||| q.index.setWidth 8

/-- The opcode of a command. -/
def Instr.opcode : Instr → Opcode
  | .read _ _ => .read
  | .write _ _ => .write
  | .readPayload _ => .readPayload
  | .writePayload _ => .writePayload
  | .writePayloadNoAck _ => .writePayloadNoAck
  | .writeAckPayload _ _ => .writeAckPayload
  | .flushTx => .flushTx
  | .flushRx => .flushRx
  | .reuseTxPayload => .reuseTxPayload
  | .readPayloadWidth => .readPayloadWidth
  | .nop => .nop

/-- The command byte of a command (30_encoding R101..R106). -/
def commandByte (p : Params) : Instr → Byte
  | .read r _ => composeCommand p.reg r .read
  | .write r _ => composeCommand p.reg r .write
  | .writeAckPayload q _ => composeAckCommand p.cmd q
  | i => i.opcode.code p.cmd

/-- The bytes the block sends after the command byte (30_encoding R108, R112): the value or payload, or a
filler byte for each byte read. -/
def dataBlock (p : Params) : Instr → List Byte
  | .read _ n => List.replicate n (filler p)
  | .write _ v => v
  | .readPayload n => List.replicate n (filler p)
  | .writePayload d => d
  | .writePayloadNoAck d => d
  | .writeAckPayload _ d => d
  | .readPayloadWidth => [filler p]
  | .flushTx => []
  | .flushRx => []
  | .reuseTxPayload => []
  | .nop => []

/-- The bytes the block sends in the command's window. -/
def encode (p : Params) (i : Instr) : List Byte := commandByte p i :: dataBlock p i

/-! ## The opcode table's numbering of bits -/

/-- The least data length any command of this command byte admits (30_encoding R112). -/
def minDataLength (p : Params) (b : Byte) : Nat :=
  match opcodeOf? p.cmd b with
  | some .read | some .write =>
    match Reg.ofAddr? p.reg (b.extractLsb' 0 5) with
    | some r => r.minSize
    | none => 0
  | some .readPayload | some .writePayload | some .writePayloadNoAck | some .writeAckPayload
  | some .readPayloadWidth => 1
  | _ => 0

/-- The low `n` bytes of a number, bits 7..0 first. -/
def bytesOfNat : Nat → Nat → List Byte
  | 0, _ => []
  | n + 1, w => BitVec.ofNat 8 w :: bytesOfNat n (w / 256)

/-- The window that holds an instruction numbered as spec/opcode_table.json numbers it, at the table's own command
bytes and addresses: the bytes given, then data bytes of zeros up to the least length the command admits (a window has
no length field of its own). -/
def tableWindow (nbits w : Nat) : List Byte :=
  match bytesOfNat (nbits / 8) w with
  | [] => []
  | b :: ds => b :: ds ++ List.replicate (minDataLength .default b - ds.length) 0

/-- What the decoder reads from an instruction whose bits are `w`, at the table's own command bytes and addresses. -/
def decodeTableWord (nbits w : Nat) : Option Instr := (decode .default (tableWindow nbits w)).toOption

end Sys2Proof
end

