-- ==== Sys2Proof/Machine/State.lean ====
section
/-! DEFINITION. The state of the block as plain data: everything 10_state gives it, the host port, the
environment's draws, and the state after reset (10_state R40, 70_reset_and_hazards R400). -/

namespace Sys2Proof.Machine

/-! ## Values of the ports -/

/-- The two output pins (10_state R22). -/
inductive Pin where
  | csn | ce
  deriving DecidableEq, Repr

/-- The interrupt flags of a status byte (10_state R27). -/
structure Flags where
  dataReady : Bool
  dataSent : Bool
  maxRetransmit : Bool
  deriving DecidableEq, Repr

/-- The decoded status byte; pipe 0..5, 6 = NOT_USED, 7 = EMPTY (10_state R27). -/
structure StatusSnapshot where
  flags : Flags
  pipe : BitVec 3
  txFull : Bool
  deriving DecidableEq, Repr

/-- The decoded observe-tx register, both counts 0..15 (10_state R38). -/
structure ObserveTx where
  lostCount : BitVec 4
  retransmitCount : BitVec 4
  deriving DecidableEq, Repr

/-- The decoded FIFO status register (10_state R38). -/
structure FifoStatus where
  txReuse : Bool
  txFull : Bool
  txEmpty : Bool
  rxFull : Bool
  rxEmpty : Bool
  deriving DecidableEq, Repr

/-- The link statistics: attempt counters and a percentage (10_state R32). -/
structure LinkStats where
  sent : Nat
  lost : Nat
  quality : Nat
  deriving DecidableEq, Repr

/-- The errors that end a host operation (60_exceptions R370; their codes, 1..5, are OpError.code in Ops). -/
inductive OpError where
  | configInvalid | notInitialized | payloadLength | frequencyRange | ioError
  deriving DecidableEq, Repr

/-- The faults that stop the block (60_exceptions R370; their codes, 6 and 7, are FaultCode.code in Ops). -/
inductive FaultCode where
  /-- WIDTH_OUT_OF_RANGE, which records the width (44_receive_and_queries R303). -/
  | widthOutOfRange (width : Nat)
  /-- NESTED_TRANSACTION (41_channel R183). -/
  | nestedTransaction
  deriving DecidableEq, Repr

/-- What a host operation returns: the result of its row in 30_encoding R120, or an error. -/
inductive HostResult where
  /-- INITIALIZE: whether the chip passed the self-test. -/
  | initialized (ok : Bool)
  /-- TRANSMIT: the TransmissionOutcome (10_state R33). -/
  | outcome (flags : Flags) (ackPayload : List Byte) (ackLen : Nat)
  /-- RECEIVE: the length and the bytes. -/
  | received (length : Nat) (payload : List Byte)
  /-- WRITE_ACK_PAYLOAD and SET_FREQUENCY return nothing. -/
  | done
  | status (st : StatusSnapshot)
  | observeTx (o : ObserveTx)
  | rpd (present : Bool)
  | fifoStatus (f : FifoStatus)
  | frequency (mhz : Nat)
  | linkStats (l : LinkStats)
  | error (e : OpError)
  deriving DecidableEq, Repr

/-- The host operations (30_encoding R120, R121: one constructor per row, typed operands). -/
inductive HostOp where
  | init (cfg : RadioConfiguration)
  /-- `timeout` none: the host gives none and the configured one is used (decision D48). -/
  | transmit (payload : List Byte) (requestAck : Bool) (timeout : Option Nat)
  | receive
  | writeAckPayload (payload : List Byte)
  | getStatus
  | getObserveTx
  | getRpd
  | getFifoStatus
  | setFrequency (mhz : Nat)
  | getFrequency
  | getLinkStats
  deriving DecidableEq, Repr

/-- An observable action of the block (00_scope R10): a pin write, a call of the duplex primitive with the
bytes sent and the bytes received (none on IoFailure), a clock reading. -/
inductive Event where
  | pin (p : Pin) (level : Bool)
  | exchange (sent : List Byte) (received : Option (List Byte))
  | clock (t : Nat)
  deriving DecidableEq, Repr

/-! ## The phase: the block's program counter (10_state R25) -/

/-- INITIALIZE's micro-steps after its check (42_configuration R212..R229). -/
inductive InitStep where
  | csnHigh | ceLow | waitStart | waitHold
  | testRead | testFlip | testReadBack | testRestore | testCompare
  /-- The register writes still to do (R225). -/
  | program (rest : List CfgReg)
  | flushTx | flushRx | clearFlags | reuse | chipEnable | complete
  deriving DecidableEq, Repr

/-- The receive procedure's micro-steps (44_receive_and_queries R301, R302). -/
inductive ReceiveStep where
  | status | length
  | payload (width : Nat)
  deriving DecidableEq, Repr

/-- TRANSMIT's micro-steps after its check: LOADED, ARMED, PULSE, POLL, SETTLE, DRAIN, ACCOUNT, REARM and
the return (43_transmit R252..R262). -/
inductive TransmitStep where
  | loaded | armedFlush | armedClear
  | pulseRaise | pulseStamp | pulseHold | pulseLower
  | pollEnter | pollRead | pollTime | pollWaitStart | pollWaitHold
  | settleStart | settleHold | settleRead
  | drain (st : ReceiveStep)
  | account
  /-- ACCOUNT's commit: after a total failure (none), or with the retransmits read from the chip
  (45_link_quality R343..R347). -/
  | commit (retries : Option Nat)
  | rearm | finish
  deriving DecidableEq, Repr

/-- The single-register-read queries (44_receive_and_queries R305..R308, R310). -/
inductive Query where
  | status | observeTx | rpd | fifoStatus | frequency
  deriving DecidableEq, Repr

/-- A running host operation and its micro-step: BUSY's operands (10_state R25). -/
inductive Busy where
  | init (st : InitStep)
  | transmit (st : TransmitStep)
  | receive (st : ReceiveStep)
  | ackFlush (payload : List Byte)
  | ackPreload (payload : List Byte)
  | query (q : Query)
  | setFrequency (mhz : Nat)
  deriving DecidableEq, Repr

/-- The phase (10_state R25). -/
inductive Phase where
  | uninit
  | idle
  | busy (b : Busy)
  | faulted (code : FaultCode)
  deriving DecidableEq, Repr

/-! ## The environment's draws -/

/-- The MODEL's own record of what the chip, the link and the clock answer: a list of answers queued, then the
free value of the count of draws. None of it is state of the block (10_state R23, R41; 20_memory R60). -/
structure Env where
  /-- The bytes the chip returns next. -/
  miso : List Byte
  misoDrawn : Nat
  /-- Whether each of the next calls of the duplex primitive fails. -/
  failures : List Bool
  failuresDrawn : Nat
  /-- How far the clock advances before each of the next readings. -/
  ticks : List Nat
  ticksDrawn : Nat
  /-- The last reading. -/
  now : Nat
  deriving DecidableEq, Repr

/-- The environment before the first draw: nothing queued. -/
def Env.start : Env where
  miso := []
  misoDrawn := 0
  failures := []
  failuresDrawn := 0
  ticks := []
  ticksDrawn := 0
  now := 0

/-! ## The state -/

/-- The state: the block's registers (10_state R20), and the model's own fields, marked so. -/
structure State where
  /-- The program counter (R25). -/
  phase : Phase
  /-- Chip-select, idle level 1 (R22). -/
  csn : Bool
  /-- Chip-enable, active high (R22). -/
  ce : Bool
  /-- The status byte of the most recent transaction, or NONE (R28). -/
  lastStatus : Option Byte
  /-- Whether the last completed initialize returned true (R29). -/
  initialized : Bool
  /-- The latched configuration, none before the first latch (R30). -/
  cfg : Option RadioConfiguration
  /-- The link statistics (R32). -/
  stats : LinkStats
  /-- The acknowledgment buffer, 32 bytes (R33). -/
  ackBuf : List Byte
  /-- How many bytes of it are valid, 0..32 (R33). -/
  ackLen : Nat
  /-- The transmit operands (R34). -/
  txPayload : List Byte
  txAck : Bool
  txTimeout : Nat
  /-- The reading taken when CE was raised (R35). -/
  tPulse : Nat
  /-- The reading taken when CE was lowered, the base of the POLL timeout (R35). -/
  t0 : Nat
  /-- The base of the current fixed wait (R35). -/
  tWait : Nat
  /-- The last status byte read by POLL (R36). -/
  pollStatus : Byte
  /-- The status byte read by SETTLE (R36). -/
  finalStatus : Byte
  /-- FEATURE as first read by the self-test (R37). -/
  stOrig : Byte
  /-- FEATURE as read back by the self-test (R37). -/
  stRead : Byte
  /-- MODEL: the parameters, CMD, REG and BITS among them, constant over a run (00_scope R7). -/
  params : Params
  /-- MODEL: the draws. -/
  env : Env
  /-- MODEL: the data the last transaction returned, Execute's second result (41_channel R182). -/
  rxData : List Byte
  /-- MODEL: a transaction asked of the channel directly, as its window's bytes. -/
  channelCall : Option (List Byte)
  /-- MODEL: the host operations to come, in order (R24). -/
  requests : List HostOp
  /-- MODEL: what was returned to the host, newest first (R24). -/
  results : List HostResult
  /-- MODEL: the observable actions so far, newest first (00_scope R3). -/
  trace : List Event
  deriving DecidableEq, Repr

/-- The block at power-on, for given levels of the pins (PIN_RESET_LEVEL) and given parameters
(10_state R40, 70_reset_and_hazards R400). The registers R40 marks unspecified hold named values:
notes/assumptions/8.md. -/
def State.powerOn (csn ce : Bool) (p : Params) : State where
  phase := .uninit
  csn := csn
  ce := ce
  lastStatus := none
  initialized := false
  cfg := none
  stats := ⟨0, 0, 0⟩
  ackBuf := List.replicate Config.maxPayload 0
  ackLen := 0
  txPayload := []
  txAck := false
  txTimeout := 0
  tPulse := 0
  t0 := 0
  tWait := 0
  pollStatus := 0
  finalStatus := 0
  stOrig := 0
  stRead := 0
  params := p
  env := Env.start
  rxData := []
  channelCall := none
  requests := []
  results := []
  trace := []

/-- The block after reset: the parameters at their defaults, CSN 1 and CE 0 (DESIGN CHOICE,
notes/assumptions/7.md: R40 leaves PIN_RESET_LEVEL open). -/
def State.reset : State := State.powerOn true false Params.default

/-! ## Why a step stops -/

/-- The machine stops with a fault: the two faults of 60_exceptions R370 "are the only outcomes a model raises on its
own" (R386). -/
inductive Fault where
  /-- Raised by the step in phase FAULTED(code): "a phase from which the block has no step" (60_exceptions
  R373). Safe: nothing can be proved past it. -/
  | stopped (code : FaultCode)
  deriving DecidableEq, Repr

/-- The step gives no meaning. -/
inductive Refusal where
  /-- An instruction without a meaning; no arm of this model answers with it. Safe. -/
  | notModelled (mnemonic : String)
  /-- Raised by the step when the window asked of the channel directly is no command of the block (30_encoding
  R110, R111). Safe: the spec gives such a window no behaviour. -/
  | notACommand (e : DecodeError)
  deriving DecidableEq, Repr

/-- What one micro-step of the block does (10_state R25): one transaction, or one pin write, clock reading or
internal update; or it cannot be taken. -/
inductive Micro where
  /-- Run the command on this state; its window is one micro-step. -/
  | command (i : Instr) (s : State)
  /-- The state after a pin write, a clock reading or an internal update. -/
  | update (s : State)
  | fault (f : Fault)
  | refuse (r : Refusal)
  deriving DecidableEq, Repr

end Sys2Proof.Machine
end

