-- ==== Sys2Proof/Machine/Ops.lean ====
section
/-! DEFINITION. The named operations on the state: the register updates, the draws, the pins, the clock, the
duplex primitive, the transaction (41_channel R182), raising an error (60_exceptions R372) and stopping with a
fault (R373). -/

namespace Sys2Proof.Machine

/-! ## Register updates -/

def State.setPhase (s : State) (p : Phase) : State := { s with phase := p }
def State.setCsn (s : State) (v : Bool) : State := { s with csn := v }
def State.setCe (s : State) (v : Bool) : State := { s with ce := v }
def State.setLastStatus (s : State) (b : Byte) : State := { s with lastStatus := some b }
def State.setInitialized (s : State) (v : Bool) : State := { s with initialized := v }
def State.setCfg (s : State) (c : RadioConfiguration) : State := { s with cfg := some c }
def State.setStats (s : State) (l : LinkStats) : State := { s with stats := l }
def State.setAckBuf (s : State) (buf : List Byte) : State := { s with ackBuf := buf }
def State.setAckLen (s : State) (n : Nat) : State := { s with ackLen := n }
def State.setTxPayload (s : State) (p : List Byte) : State := { s with txPayload := p }
def State.setTxAck (s : State) (v : Bool) : State := { s with txAck := v }
def State.setTxTimeout (s : State) (t : Nat) : State := { s with txTimeout := t }
def State.setTPulse (s : State) (t : Nat) : State := { s with tPulse := t }
def State.setT0 (s : State) (t : Nat) : State := { s with t0 := t }
def State.setTWait (s : State) (t : Nat) : State := { s with tWait := t }
def State.setPollStatus (s : State) (b : Byte) : State := { s with pollStatus := b }
def State.setFinalStatus (s : State) (b : Byte) : State := { s with finalStatus := b }
def State.setStOrig (s : State) (b : Byte) : State := { s with stOrig := b }
def State.setStRead (s : State) (b : Byte) : State := { s with stRead := b }
def State.setEnv (s : State) (e : Env) : State := { s with env := e }
def State.setRxData (s : State) (d : List Byte) : State := { s with rxData := d }
def State.setChannelCall (s : State) (w : Option (List Byte)) : State := { s with channelCall := w }
def State.setRequests (s : State) (ops : List HostOp) : State := { s with requests := ops }
/-- Return a result or an error to the host. -/
def State.pushResult (s : State) (r : HostResult) : State := { s with results := r :: s.results }
/-- Record an observable action. -/
def State.emit (s : State) (e : Event) : State := { s with trace := e :: s.trace }

/-! ## Draws -/

/-- The byte the chip returns `i` bytes from now: the one queued, or else a free value (20_memory R60). -/
def Env.byteAt (e : Env) (i : Nat) : Byte := (e.miso[i]?).getD (Config.chipByte (e.misoDrawn + i))

/-- The next `n` bytes the chip returns. -/
def Env.bytes (e : Env) (n : Nat) : List Byte := (List.range n).map e.byteAt

/-- The draws after `n` bytes. -/
def Env.dropBytes (e : Env) (n : Nat) : Env :=
  { e with miso := e.miso.drop n, misoDrawn := e.misoDrawn + n }

/-- Whether the exchange `i` exchanges from now fails: the answer queued, or else a free value. -/
def Env.failAt (e : Env) (i : Nat) : Bool := (e.failures[i]?).getD (Config.ioFails (e.failuresDrawn + i))

/-- The draws after one exchange's answer. -/
def Env.dropFailure (e : Env) : Env :=
  { e with failures := e.failures.drop 1, failuresDrawn := e.failuresDrawn + 1 }

/-- The next clock reading: the last one and an advance, queued or else free (10_state R23). -/
def Env.reading (e : Env) : Nat := e.now + (e.ticks[0]?).getD (Config.clockAdvance e.ticksDrawn)

/-- The draws after one clock reading. -/
def Env.tick (e : Env) : Env :=
  { e with ticks := e.ticks.drop 1, ticksDrawn := e.ticksDrawn + 1, now := e.reading }

/-! ## Pins, clock, duplex primitive -/

/-- SetPin(p, v): it cannot fail and takes effect at once (41_channel R190). -/
def State.setPin (p : Pin) (v : Bool) (s : State) : State :=
  match p with
  | .csn => (s.setCsn v).emit (.pin .csn v)
  | .ce => (s.setCe v).emit (.pin .ce v)

/-- A clock value of CLOCK_BITS bits, or a natural number (10_state R35). -/
def clockValue (p : Params) (t : Nat) : Nat :=
  match p.clockBits with
  | none => t
  | some k => t % 2 ^ k

/-- `t - t'` for two clock values: the natural difference, or modulo 2^CLOCK_BITS (41_channel R194). -/
def elapsed (p : Params) (t t' : Nat) : Nat :=
  match p.clockBits with
  | none => t - t'
  | some k => (t + (2 ^ k - t' % 2 ^ k)) % 2 ^ k

/-- The value the next Now() returns. -/
def State.now (s : State) : Nat := clockValue s.params s.env.reading

/-- The state after a Now() (00_scope R10). -/
def State.readClock (s : State) : State := (s.setEnv s.env.tick).emit (.clock s.now)

/-- Whether the next Exchange fails with IoFailure. -/
def State.exchangeFails (s : State) : Bool := s.env.failAt 0

/-- The state after Exchange(out): on success one byte is drawn for each byte sent (10_state R21). -/
def State.exchange (out : List Byte) (s : State) : State :=
  if s.exchangeFails then (s.setEnv s.env.dropFailure).emit (.exchange out none)
  else (s.setEnv (s.env.dropFailure.dropBytes out.length)).emit
    (.exchange out (some (s.env.bytes out.length)))

/-! ## The latched configuration -/

/-- The latched configuration; where none is latched, a free value (10_state R30; notes/assumptions/9.md). -/
def State.config (s : State) : RadioConfiguration := s.cfg.getD Config.unlatchedConfiguration

/-! ## Ending an operation -/

/-- The code of an error (60_exceptions R370). -/
def OpError.code : OpError → Nat
  | .configInvalid => 1
  | .notInitialized => 2
  | .payloadLength => 3
  | .frequencyRange => 4
  | .ioError => 5

/-- The code of a fault (60_exceptions R370). -/
def FaultCode.code : FaultCode → Nat
  | .widthOutOfRange _ => 6
  | .nestedTransaction => 7

/-- The code a host operation ends with: 0 for every result, a failed self-test and a transmission that timed out
among them, else the error's (60_exceptions R370). -/
def HostResult.code : HostResult → Nat
  | .initialized _ => 0
  | .outcome _ _ _ => 0
  | .received _ _ => 0
  | .done => 0
  | .status _ => 0
  | .observeTx _ => 0
  | .rpd _ => 0
  | .fifoStatus _ => 0
  | .frequency _ => 0
  | .linkStats _ => 0
  | .error e => e.code

/-- End the running operation with a result, in the phase given (10_state R26). -/
def State.finish (p : Phase) (r : HostResult) (s : State) : State := (s.setPhase p).pushResult r

/-- The phase after an error: a check's error leaves the resting phase as it was; an IO_ERROR leaves UNINIT if
the operation was INITIALIZE, else IDLE (60_exceptions R372). -/
def Phase.afterError : Phase → Phase
  | .busy (.init _) => .uninit
  | .busy _ => .idle
  | p => p

/-- Whether the phase is one of INITIALIZE's. -/
def Phase.isInit : Phase → Bool
  | .busy (.init _) => true
  | _ => false

/-- End the current host operation with an error: the block's one way of taking an exception
(60_exceptions R370, R372, R379). Nothing else changes, and an INITIALIZE leaves the block not initialized. -/
def State.raise (e : OpError) (s : State) : State :=
  ((s.setInitialized (s.initialized && !s.phase.isInit)).setPhase s.phase.afterError).pushResult (.error e)

/-- Stop with a fault: the phase becomes FAULTED(code), the pins keep their levels (60_exceptions R373). -/
def State.stop (c : FaultCode) (s : State) : State := s.setPhase (.faulted c)

/-! ## The transaction (41_channel R182) -/

/-- What Execute does after the command byte: its `kind` and `arg` (41_channel R180). -/
inductive Transfer where
  | write (block : List Byte)
  | read (n : Nat)
  | command
  deriving DecidableEq, Repr

/-- The bytes sent after the command byte, given the filler byte (41_channel R181, R185..R187). -/
def Transfer.sent (fill : Byte) : Transfer → List Byte
  | .write block => block
  | .read n => List.replicate n fill
  | .command => []

/-- The data Execute returns, given the bytes received during the data block: a WRITE's are discarded
(41_channel R185, R186). -/
def Transfer.captured (k : Transfer) (received : List Byte) : List Byte :=
  match k with
  | .read _ => received
  | .write _ => []
  | .command => []

/-- Lines 6 to 13 of Execute, after the command byte's status is latched: the data block, if there is one,
and the close of the window, on a failure too (41_channel R188). -/
def State.dataPart (k : Transfer) (s : State) : State :=
  let sent := k.sent (filler s.params)
  if sent.isEmpty then (s.setRxData []).setPin .csn true
  else if s.exchangeFails then (((s.exchange sent).setRxData []).setPin .csn true).raise .ioError
  else ((s.exchange sent).setRxData (k.captured (s.env.bytes sent.length))).setPin .csn true

/-- Lines 2 to 13 of Execute: the chip-select window around one command byte and its data block. -/
def State.window (cmd : Byte) (k : Transfer) (s : State) : State :=
  let opened := s.setPin .csn false
  if opened.exchangeFails then ((opened.exchange [cmd]).setPin .csn true).raise .ioError
  else ((opened.exchange [cmd]).setLastStatus (opened.env.byteAt 0)).dataPart k

/-- Execute(cmd, kind, arg): one chip-select-framed transaction (41_channel R182). A transaction begun with
CSN 0 is the fault NESTED_TRANSACTION (R183). -/
def State.transact (cmd : Byte) (k : Transfer) (s : State) : State :=
  if s.csn then s.window cmd k else s.stop .nestedTransaction

/-- The first data byte of the transaction just run: `data[0]` of a read of one byte or more (40_commands
R140, R149). A read that raised nothing leaves at least that byte, so the 0 is never met
(notes/assumptions/19.md). -/
def State.rxByte (s : State) : Byte := s.rxData.headD 0

end Sys2Proof.Machine
end

