-- ==== Sys2Proof/Machine/Commands.lean ====
section
/-! DEFINITION. The commands without data, class COMMAND (41_channel R180, R187). What the chip does with them
is outside the block (20_memory R60, 00_scope R5). -/

namespace Sys2Proof.Machine

/-- FLUSH_TX: `Execute(0xE1, Command, -)` (40_commands R146). -/
def execFlushTx (s : State) : Host.Outcome State Fault Refusal :=
  .next (s.transact (Opcode.flushTx.code s.params.cmd) .command)

/-- FLUSH_RX: `Execute(0xE2, Command, -)` (40_commands R147). -/
def execFlushRx (s : State) : Host.Outcome State Fault Refusal :=
  .next (s.transact (Opcode.flushRx.code s.params.cmd) .command)

/-- REUSE_TX_PAYLOAD: `Execute(0xE3, Command, -)` (40_commands R148). -/
def execReuseTxPayload (s : State) : Host.Outcome State Fault Refusal :=
  .next (s.transact (Opcode.reuseTxPayload.code s.params.cmd) .command)

/-- NOP: `Execute(0xFF, Command, -)`; the status byte is its whole result (40_commands R150). -/
def execNop (s : State) : Host.Outcome State Fault Refusal :=
  .next (s.transact (Opcode.nop.code s.params.cmd) .command)

end Sys2Proof.Machine
end

