-- ==== Sys2Proof/Machine/Payloads.lean ====
section
/-! DEFINITION. The payload commands (30_encoding R102, R103). What the chip's FIFOs do with them is outside
the block (20_memory R60, 00_scope R5). -/

namespace Sys2Proof.Machine

/-- READ_PAYLOAD: `Execute(0x61, Read, n)` (40_commands R142). -/
def execReadPayload (n : Nat) (s : State) : Host.Outcome State Fault Refusal :=
  .next (s.transact (Opcode.readPayload.code s.params.cmd) (.read n))

/-- WRITE_PAYLOAD: `Execute(0xA0, Write, p)` (40_commands R143). -/
def execWritePayload (p : List Byte) (s : State) : Host.Outcome State Fault Refusal :=
  .next (s.transact (Opcode.writePayload.code s.params.cmd) (.write p))

/-- WRITE_PAYLOAD_NO_ACK: `Execute(0xB0, Write, p)` (40_commands R144). -/
def execWritePayloadNoAck (p : List Byte) (s : State) : Host.Outcome State Fault Refusal :=
  .next (s.transact (Opcode.writePayloadNoAck.code s.params.cmd) (.write p))

/-- WRITE_ACK_PAYLOAD: `Execute(0xA8 | pipe, Write, p)` (40_commands R145). -/
def execWriteAckPayload (pipe : Pipe) (p : List Byte) (s : State) : Host.Outcome State Fault Refusal :=
  .next (s.transact (composeAckCommand s.params.cmd pipe) (.write p))

/-- READ_PAYLOAD_WIDTH: `Execute(0x60, Read, 1)` (40_commands R149). -/
def execReadPayloadWidth (s : State) : Host.Outcome State Fault Refusal :=
  .next (s.transact (Opcode.readPayloadWidth.code s.params.cmd) (.read 1))

end Sys2Proof.Machine
end

