-- ==== Sys2Proof/Machine/Registers.lean ====
section
/-! DEFINITION. The register access commands, format RA (30_encoding R101). -/

namespace Sys2Proof.Machine

/-- READ: `Execute(addr, Read, n)`; the data is left for the operation that asked (40_commands R140). -/
def execRead (r : Reg) (n : Nat) (s : State) : Host.Outcome State Fault Refusal :=
  .next (s.transact (composeCommand s.params.reg r .read) (.read n))

/-- WRITE: `Execute(0x20 | addr, Write, v)` (40_commands R141). -/
def execWrite (r : Reg) (v : List Byte) (s : State) : Host.Outcome State Fault Refusal :=
  .next (s.transact (composeCommand s.params.reg r .write) (.write v))

end Sys2Proof.Machine
end

