-- ==== Sys2Proof/Machine/Dispatch.lean ====
section
/-! DEFINITION. What each chip command does: one arm per constructor of Instr, one direct call of its meaning. -/

namespace Sys2Proof.Machine

def exec (i : Instr) (s : State) : Host.Outcome State Fault Refusal :=
  match i with
  | .read r n => Sys2Proof.Machine.execRead r n s
  | .write r v => Sys2Proof.Machine.execWrite r v s
  | .readPayload n => Sys2Proof.Machine.execReadPayload n s
  | .writePayload p => Sys2Proof.Machine.execWritePayload p s
  | .writePayloadNoAck p => Sys2Proof.Machine.execWritePayloadNoAck p s
  | .writeAckPayload pipe p => Sys2Proof.Machine.execWriteAckPayload pipe p s
  | .flushTx => Sys2Proof.Machine.execFlushTx s
  | .flushRx => Sys2Proof.Machine.execFlushRx s
  | .reuseTxPayload => Sys2Proof.Machine.execReuseTxPayload s
  | .readPayloadWidth => Sys2Proof.Machine.execReadPayloadWidth s
  | .nop => Sys2Proof.Machine.execNop s

end Sys2Proof.Machine
end

