-- ==== Sys2Proof/Machine/Flags.lean ====
section
/-! DEFINITION. The decodings of the bytes read from the chip: the status byte (10_state R27), the observe-tx,
received-power, FIFO status and channel registers (44_receive_and_queries R305..R307, R310), at the field positions of
the parameter BITS (20_memory), and the tests the block makes on the flags (10_state R42). -/

namespace Sys2Proof.Machine

/-- decode_status(x): the three flags, the pipe and tx_full at their places; every other bit is ignored
(10_state R27, 20_memory R66). -/
def decodeStatus (b : FieldPositions) (x : Byte) : StatusSnapshot where
  flags :=
    { dataReady := x.getLsbD b.statusDataReady
      dataSent := x.getLsbD b.statusDataSent
      maxRetransmit := x.getLsbD b.statusMaxRetransmit }
  pipe := x.extractLsb' b.statusPipe 3
  txFull := x.getLsbD b.statusTxFull

/-- At least one interrupt flag is set: POLL's test (43_transmit R256). -/
def Flags.any (f : Flags) : Bool := f.dataReady || f.dataSent || f.maxRetransmit

/-- ACCOUNT's test for total failure: no flag, or MAX_RETRANSMIT (45_link_quality R342). -/
def Flags.failed (f : Flags) : Bool := !f.any || f.maxRetransmit

/-- The pipe field names pipe 0: the receive procedure's test (44_receive_and_queries R301). -/
def StatusSnapshot.onPipe0 (st : StatusSnapshot) : Bool := st.pipe == 0

/-- The observe-tx register: two counts of four bits (44_receive_and_queries R305, 20_memory R74). -/
def decodeObserveTx (b : FieldPositions) (x : Byte) : ObserveTx where
  lostCount := x.extractLsb' b.observeLost 4
  retransmitCount := x.extractLsb' b.observeRetransmits 4

/-- The received-power flag (44_receive_and_queries R306, 20_memory R75). -/
def decodeRpd (b : FieldPositions) (x : Byte) : Bool := x.getLsbD b.rpd

/-- The FIFO status register (44_receive_and_queries R307, 20_memory R76). -/
def decodeFifoStatus (b : FieldPositions) (x : Byte) : FifoStatus where
  txReuse := x.getLsbD b.fifoTxReuse
  txFull := x.getLsbD b.fifoTxFull
  txEmpty := x.getLsbD b.fifoTxEmpty
  rxFull := x.getLsbD b.fifoRxFull
  rxEmpty := x.getLsbD b.fifoRxEmpty

/-- The carrier frequency: 2400 plus the seven-bit channel (44_receive_and_queries R310, 20_memory R72). -/
def decodeFrequency (b : FieldPositions) (x : Byte) : Nat :=
  Config.freqBaseMhz + (x.extractLsb' b.channel 7).toNat

end Sys2Proof.Machine
end

