-- ==== Sys2Proof/Machine/Operands.lean ====
section
/-! DEFINITION. The operand forms: which operands the host operations admit (10_state R31, 43_transmit R251,
44_receive_and_queries R309), and the register values composed from the configuration (42_configuration
R214..R224, 30_encoding R109). -/

namespace Sys2Proof.Machine

/-! ## Admitted operands -/

/-- Every field of the configuration holds a value of R30's table and the address has `aw + 2` bytes (10_state
R31). The fields of one bit, of three and of six bits hold nothing else by their types. -/
def configAdmitted (c : RadioConfiguration) : Bool :=
  decide (c.crcWidth ≤ 2) && decide (c.retransmitDelay ≤ 15) && decide (c.retransmitCount ≤ 15)
    && decide (c.channel ≤ 127) && decide (c.outputPower ≤ 3)
    && (decide (1 ≤ c.addressWidth) && decide (c.addressWidth ≤ 3))
    && c.address.length == c.addressWidth + 2 && decide (c.staticPayloadWidth ≤ 32)

/-- A payload the host supplies is 1..32 bytes (43_transmit R251, 44_receive_and_queries R304). -/
def payloadAdmitted (p : List Byte) : Bool := payloadAdmits p.length

/-- The frequencies SET_FREQUENCY admits, 2400..2527 MHz (44_receive_and_queries R309). -/
def frequencyAdmitted (mhz : Nat) : Bool := decide (2400 ≤ mhz) && decide (mhz ≤ 2527)

/-! ## Register values, their fields at the positions of the parameter BITS -/

/-- A one-bit field at a position. -/
def bitAt (v : Bool) (i : Nat) : Byte := (BitVec.ofBool v).setWidth 8 <<< i

/-- A number in the field at a position. -/
def fieldAt (n : Nat) (i : Nat) : Byte := BitVec.ofNat 8 n <<< i

/-- EN_CRC, CRCO for 0, 1 or 2 CRC bytes (42_configuration R214). -/
def crcBits (b : FieldPositions) : Nat → BitVec 2
  | 0 => b.crcNone
  | 1 => b.crcOneByte
  | _ => b.crcTwoBytes

/-- CONFIG: interrupt mask, CRC width, power state, mode bit (42_configuration R214). -/
def configValue (b : FieldPositions) (c : RadioConfiguration) : Byte :=
  (c.irqMask.setWidth 8 <<< b.configIrqMask.val) ||| ((crcBits b c.crcWidth).setWidth 8 <<< b.configCrc.val)
    ||| bitAt c.powerUp b.configPowerUp ||| bitAt (c.mode == .receiver) b.configPrimRx

/-- EN_AA: the auto-acknowledgment mask (42_configuration R215). -/
def enAaValue (b : FieldPositions) (c : RadioConfiguration) : Byte :=
  c.autoAckMask.setWidth 8 <<< b.enAaPipe0.val

/-- EN_RXADDR: pipe 0 only (42_configuration R216). -/
def enRxaddrValue (b : FieldPositions) : Byte := bitAt true b.enRxaddrPipe0

/-- SETUP_AW: the address-width code (42_configuration R217). -/
def setupAwValue (b : FieldPositions) (c : RadioConfiguration) : Byte := fieldAt c.addressWidth b.addressWidth

/-- SETUP_RETR: delay, count (42_configuration R218). -/
def setupRetrValue (b : FieldPositions) (c : RadioConfiguration) : Byte :=
  fieldAt c.retransmitDelay b.retransmitDelay ||| fieldAt c.retransmitCount b.retransmitCount

/-- RF_CH: the channel (42_configuration R219). -/
def rfChValue (b : FieldPositions) (c : RadioConfiguration) : Byte := fieldAt c.channel b.channel

/-- RF_CH for a frequency: the channel is `mhz - 2400` (44_receive_and_queries R309). -/
def channelOf (b : FieldPositions) (mhz : Nat) : Byte := fieldAt (mhz - Config.freqBaseMhz) b.channel

/-- The data rate's bits (42_configuration R220). -/
def rateBits (b : FieldPositions) : DataRate → Byte
  | .rate1M => b.rate1M
  | .rate2M => b.rate2M
  | .rate250K => b.rate250K

/-- RF_SETUP: continuous-wave bit, data rate, output power (42_configuration R220). -/
def rfSetupValue (b : FieldPositions) (c : RadioConfiguration) : Byte :=
  bitAt c.continuousWave b.continuousWave ||| rateBits b c.dataRate ||| fieldAt c.outputPower b.outputPower

/-- TX_ADDR and RX_ADDR_P0: the first `aw + 2` bytes of the address, its first byte first (42_configuration
R221, 20_memory R80). -/
def addressValue (c : RadioConfiguration) : List Byte := c.address.take (c.addressWidth + 2)

/-- RX_PW_P0: the static payload width (42_configuration R222). -/
def rxPwValue (b : FieldPositions) (c : RadioConfiguration) : Byte :=
  fieldAt c.staticPayloadWidth b.payloadWidth

/-- DYNPD: pipe 0 when dynamic payloads are on (42_configuration R223). -/
def dynpdValue (b : FieldPositions) (c : RadioConfiguration) : Byte := bitAt c.dynamicPayload b.dynpdPipe0

/-- FEATURE: dynamic payload, acknowledgment payload, dynamic acknowledgment in bits 2, 1, 0, places the source states
(42_configuration R224). -/
def featureValue (c : RadioConfiguration) : Byte :=
  bitAt c.dynamicPayload 2 ||| bitAt c.ackPayload 1 ||| bitAt c.dynamicAck 0

end Sys2Proof.Machine

namespace Sys2Proof

open Sys2Proof.Machine

/-- The chip register a configuration write goes to (42_configuration R225). -/
def CfgReg.reg : CfgReg → Reg
  | .config => .config
  | .enAa => .enAa
  | .enRxaddr => .enRxaddr
  | .setupAw => .setupAw
  | .setupRetr => .setupRetr
  | .rfCh => .rfCh
  | .rfSetup => .rfSetup
  | .txAddr => .txAddr
  | .rxAddrP0 => .rxAddrP0
  | .rxPwP0 => .rxPwP0
  | .dynpd => .dynpd
  | .feature => .feature

/-- The value a configuration write carries (42_configuration R225's table). -/
def CfgReg.value (b : FieldPositions) (c : RadioConfiguration) : CfgReg → List Byte
  | .config => [configValue b c]
  | .enAa => [enAaValue b c]
  | .enRxaddr => [enRxaddrValue b]
  | .setupAw => [setupAwValue b c]
  | .setupRetr => [setupRetrValue b c]
  | .rfCh => [rfChValue b c]
  | .rfSetup => [rfSetupValue b c]
  | .txAddr => addressValue c
  | .rxAddrP0 => addressValue c
  | .rxPwP0 => [rxPwValue b c]
  | .dynpd => [dynpdValue b c]
  | .feature => [featureValue c]

end Sys2Proof

namespace Sys2Proof.Machine

/-- The value that clears the three interrupt flags: their bits set, every other bit 0 (40_commands R160). -/
def clearValue (b : FieldPositions) : Byte :=
  bitAt true b.statusDataReady ||| bitAt true b.statusDataSent ||| bitAt true b.statusMaxRetransmit

/-- CLEAR_INTERRUPTS: the write of that value to STATUS (40_commands R160). -/
def clearInterrupts (b : FieldPositions) : Instr := .write .status [clearValue b]

/-- STATUS_READ (44_receive_and_queries R300). -/
def statusRead : Instr := .read .status 1

/-- The register a query reads, one byte (44_receive_and_queries R305..R308, R310). -/
def Query.reg : Query → Reg
  | .status => .status
  | .observeTx => .observeTx
  | .rpd => .rpd
  | .fifoStatus => .fifoStatus
  | .frequency => .rfCh

end Sys2Proof.Machine
end

