-- ==== Sys2Proof/Machine/Receive.lean ====
section
/-! DEFINITION. The receive procedure (44_receive_and_queries R301..R303), which RECEIVE runs and TRANSMIT's
DRAIN runs (43_transmit R259), and RECEIVE itself. `wrap` places the procedure's micro-step in the operation that runs
it; `done` is what follows in that operation. -/

namespace Sys2Proof.Machine

/-- The width is known: 0 reads nothing, above 32 is the fault WIDTH_OUT_OF_RANGE, else READ_PAYLOAD follows
(44_receive_and_queries R302, R303). -/
def widthKnown (wrap : ReceiveStep → Busy) (done : State → State) (w : Nat) (s : State) : State :=
  if w = 0 then done (s.setAckLen 0)
  else if w > 32 then s.stop (.widthOutOfRange w)
  else s.setPhase (.busy (wrap (.payload w)))

/-- `ack_buf[0 .. w) <- data; ack_len <- w` (44_receive_and_queries R302). -/
def State.storeAck (w : Nat) (data : List Byte) (s : State) : State :=
  (s.setAckBuf (data ++ s.ackBuf.drop w)).setAckLen w

/-- The receive procedure's micro-step (44_receive_and_queries R301, R302). -/
def receiveMicro (wrap : ReceiveStep → Busy) (done : State → State) (st : ReceiveStep) (s : State) : Micro :=
  match st with
  | .status => .command statusRead s
  | .length =>
      if s.config.dynamicPayload then .command .readPayloadWidth s
      else .update (widthKnown wrap done s.config.staticPayloadWidth s)
  | .payload w => .command (.readPayload w) s

/-- What the receive procedure does with the data of its transaction (44_receive_and_queries R301, R302). -/
def receiveResume (wrap : ReceiveStep → Busy) (done : State → State) (st : ReceiveStep) (s : State) : State :=
  match st with
  | .status =>
      if (decodeStatus s.params.bits s.rxByte).onPipe0 then s.setPhase (.busy (wrap .length)) else done (s.setAckLen 0)
  | .length => widthKnown wrap done s.rxByte.toNat s
  | .payload w => done (s.storeAck w s.rxData)

/-- RECEIVE's return: the length and the valid bytes (44_receive_and_queries R301). -/
def receiveDone (s : State) : State := s.finish .idle (.received s.ackLen (s.ackBuf.take s.ackLen))

end Sys2Proof.Machine
end

