-- ==== Sys2Proof/Machine/Initialize.lean ====
section
/-! DEFINITION. The configuration sequencer: INITIALIZE's steps 1 to 7 (42_configuration R212..R229). Its step 0,
the check and latch, is in HostPort. -/

namespace Sys2Proof.Machine

def State.initGoto (s : State) (st : InitStep) : State := s.setPhase (.busy (.init st))

/-- The value the self-test writes: FEATURE with its least significant bit flipped (42_configuration R213). -/
def State.flipped (s : State) : Byte := s.stOrig ^^^ 0x01

/-- One micro-step of INITIALIZE (42_configuration R212, R213, R225..R229). -/
def initMicro (st : InitStep) (s : State) : Micro :=
  match st with
  | .csnHigh => .update ((s.setPin .csn true).initGoto .ceLow)
  | .ceLow => .update ((s.setPin .ce false).initGoto .waitStart)
  | .waitStart => .update ((s.readClock.setTWait s.now).initGoto .waitHold)
  | .waitHold =>
      .update (if elapsed s.params s.now s.tWait ≥ s.params.powerupUs then s.readClock.initGoto .testRead
        else s.readClock)
  | .testRead => .command (.read .feature 1) s
  | .testFlip => .command (.write .feature [s.flipped]) s
  | .testReadBack => .command (.read .feature 1) s
  | .testRestore => .command (.write .feature [s.stOrig]) s
  | .testCompare =>
      .update (if s.stRead = s.flipped then s.initGoto (.program s.params.configWriteOrder)
        else (s.setInitialized false).finish .uninit (.initialized false))
  | .program [] => .update (s.initGoto .flushTx)
  | .program (r :: _) => .command (.write r.reg (r.value s.params.bits s.config)) s
  | .flushTx => .command .flushTx s
  | .flushRx => .command .flushRx s
  | .clearFlags => .command (clearInterrupts s.params.bits) s
  | .reuse => if s.config.txReuse then .command .reuseTxPayload s else .update (s.initGoto .chipEnable)
  | .chipEnable =>
      .update ((if s.config.mode = .receiver then s.setPin .ce true else s).initGoto .complete)
  | .complete => .update ((s.setInitialized true).finish .idle (.initialized true))

/-- Where INITIALIZE goes after a transaction that raised nothing (42_configuration R213, R225..R227). -/
def initResume (st : InitStep) (s : State) : State :=
  match st with
  | .testRead => (s.setStOrig s.rxByte).initGoto .testFlip
  | .testFlip => s.initGoto .testReadBack
  | .testReadBack => (s.setStRead s.rxByte).initGoto .testRestore
  | .testRestore => s.initGoto .testCompare
  | .program (_ :: rest) => s.initGoto (.program rest)
  | .flushTx => s.initGoto .flushRx
  | .flushRx => s.initGoto .clearFlags
  | .clearFlags => s.initGoto .reuse
  | .reuse => s.initGoto .chipEnable
  | .csnHigh | .ceLow | .waitStart | .waitHold | .testCompare | .program [] | .chipEnable | .complete => s

end Sys2Proof.Machine
end

