-- ==== Sys2Proof/Machine/LinkQuality.lean ====
section
/-! DEFINITION. The link-quality estimator (45_link_quality R341..R347), on natural numbers (decision D25). -/

namespace Sys2Proof.Machine

/-- `n`, the worst-case attempt charge: ARC + 1 (45_link_quality R341). -/
def attemptCharge (c : RadioConfiguration) : Nat := c.retransmitCount + 1

/-- Q(sent, lost): 0 when `lost >= sent`, else the truncated percentage (45_link_quality R346). -/
def quality (sent lost : Nat) : Nat := if lost ≥ sent then 0 else (100 * (sent - lost)) / sent

/-- The statistics ACCOUNT commits, given `sent'` and `lost'`: at `100 x n` the window closes, the quality is
computed and the counters return to 0 (45_link_quality R345). -/
def closeWindow (n sent lost : Nat) (l : LinkStats) : LinkStats :=
  if sent ≥ Config.windowFactor * n then ⟨0, 0, quality sent lost⟩ else ⟨sent, lost, l.quality⟩

/-- The retransmit count of an observe-tx byte (45_link_quality R344). -/
def retransmits (b : FieldPositions) (x : Byte) : Nat := (decodeObserveTx b x).retransmitCount.toNat

/-- What ACCOUNT adds to `lost`: the whole charge after a total failure (none), else the retransmits read
(45_link_quality R343, R344). -/
def lostCharge (c : RadioConfiguration) (retries : Option Nat) : Nat := retries.getD (attemptCharge c)

/-- ACCOUNT's one commit (45_link_quality R341, R343, R344, R345, R347). -/
def State.account (c : RadioConfiguration) (retries : Option Nat) (s : State) : State :=
  s.setStats (closeWindow (attemptCharge c) (s.stats.sent + attemptCharge c)
    (s.stats.lost + lostCharge c retries) s.stats)

end Sys2Proof.Machine
end

