-- ==== Sys2Proof/Machine/Transmit.lean ====
section
/-! DEFINITION. The transmit state machine (43_transmit R252..R262) with ACCOUNT (45_link_quality). Its check and
latch are in HostPort. -/

namespace Sys2Proof.Machine

def State.txGoto (s : State) (st : TransmitStep) : State := s.setPhase (.busy (.transmit st))

/-- After DRAIN: ACCOUNT if acknowledgment was requested, else REARM (43_transmit R260, R263). -/
def drainDone (s : State) : State := s.txGoto (if s.txAck then .account else .rearm)

/-- DRAIN's place for the receive procedure's micro-steps (43_transmit R259). -/
def drainWrap (st : ReceiveStep) : Busy := .transmit (.drain st)

/-- The outcome's flags: those of SETTLE's read (43_transmit R258). -/
def State.finalFlags (s : State) : Flags := (decodeStatus s.params.bits s.finalStatus).flags

/-- TRANSMIT's return (43_transmit R262). -/
def State.outcome (s : State) : HostResult := .outcome s.finalFlags (s.ackBuf.take s.ackLen) s.ackLen

/-- One micro-step of TRANSMIT (43_transmit R252..R262; 45_link_quality R342..R347). -/
def transmitMicro (st : TransmitStep) (s : State) : Micro :=
  match st with
  | .loaded => .command (if s.txAck then .writePayload s.txPayload else .writePayloadNoAck s.txPayload) s
  | .armedFlush => .command .flushRx s
  | .armedClear => .command (clearInterrupts s.params.bits) s
  | .pulseRaise => .update ((s.setPin .ce true).txGoto .pulseStamp)
  | .pulseStamp => .update ((s.readClock.setTPulse s.now).txGoto .pulseHold)
  | .pulseHold =>
      .update (if elapsed s.params s.now s.tPulse ≥ Config.cePulseUs then s.readClock.txGoto .pulseLower
        else s.readClock)
  | .pulseLower => .update ((s.setPin .ce false).txGoto (if s.txAck then .pollEnter else .settleStart))
  | .pollEnter => .update ((s.readClock.setT0 s.now).txGoto .pollRead)
  | .pollRead => .command statusRead s
  | .pollTime =>
      .update (s.readClock.txGoto
        (if elapsed s.params s.now s.t0 ≥ s.txTimeout then .settleStart
          else if s.params.pollIntervalUs > 0 then .pollWaitStart else .pollRead))
  | .pollWaitStart => .update ((s.readClock.setTWait s.now).txGoto .pollWaitHold)
  | .pollWaitHold =>
      .update (if elapsed s.params s.now s.tWait ≥ s.params.pollIntervalUs then s.readClock.txGoto .pollRead
        else s.readClock)
  | .settleStart => .update ((s.readClock.setTWait s.now).txGoto .settleHold)
  | .settleHold =>
      .update (if elapsed s.params s.now s.tWait ≥ Config.settleUs then s.readClock.txGoto .settleRead
        else s.readClock)
  | .settleRead => .command statusRead s
  | .drain st => receiveMicro drainWrap drainDone st s
  | .account => .command (if s.finalFlags.failed then .flushTx else .read .observeTx 1) s
  | .commit retries => .update ((s.account s.config retries).txGoto .rearm)
  | .rearm => if s.config.txReuse then .command .reuseTxPayload s else .update (s.txGoto .finish)
  | .finish => .update (s.finish .idle s.outcome)

/-- Where TRANSMIT goes after a transaction that raised nothing (43_transmit R252..R261). -/
def transmitResume (st : TransmitStep) (s : State) : State :=
  match st with
  | .loaded => s.txGoto .armedFlush
  | .armedFlush => s.txGoto .armedClear
  | .armedClear => s.txGoto .pulseRaise
  | .pollRead =>
      (s.setPollStatus s.rxByte).txGoto
        (if (decodeStatus s.params.bits s.rxByte).flags.any then .settleStart else .pollTime)
  | .settleRead => (s.setFinalStatus s.rxByte).txGoto (.drain .status)
  | .drain st => receiveResume drainWrap drainDone st s
  | .account =>
      s.txGoto (.commit (if s.finalFlags.failed then none else some (retransmits s.params.bits s.rxByte)))
  | .rearm => s.txGoto .finish
  | .pulseRaise | .pulseStamp | .pulseHold | .pulseLower | .pollEnter | .pollTime | .pollWaitStart
  | .pollWaitHold | .settleStart | .settleHold | .commit _ | .finish => s

end Sys2Proof.Machine
end

