-- ==== Sys2Proof/Machine/HostPort.lean ====
section
/-! DEFINITION. The host port: taking a host operation in a resting phase with its checks (60_exceptions R371) and
latches, and the operations of one or two transactions (44_receive_and_queries R304..R311). -/

namespace Sys2Proof.Machine

/-- A query's result, decoded from the byte read (44_receive_and_queries R305..R308, R310). -/
def Query.result (b : FieldPositions) (q : Query) (x : Byte) : HostResult :=
  match q with
  | .status => .status (decodeStatus b x)
  | .observeTx => .observeTx (decodeObserveTx b x)
  | .rpd => .rpd (decodeRpd b x)
  | .fifoStatus => .fifoStatus (decodeFifoStatus b x)
  | .frequency => .frequency (decodeFrequency b x)

/-- The operations that need a successful initialize: NOT_INITIALIZED comes before every other check
(60_exceptions R371). -/
def whenInitialized (s : State) (k : Micro) : Micro :=
  if s.initialized then k else .update (s.raise .notInitialized)

/-- An operand check (60_exceptions R371). -/
def whenAdmitted (ok : Bool) (e : OpError) (s : State) (k : Micro) : Micro :=
  if ok then k else .update (s.raise e)

/-- INITIALIZE's step 0 latches the configuration and clears the initialized flag (42_configuration R211). -/
def State.latchConfig (c : RadioConfiguration) (s : State) : State :=
  ((s.setCfg c).setInitialized false).initGoto .csnHigh

/-- TRANSMIT latches its operands (43_transmit R251). -/
def State.latchTransmit (p : List Byte) (ack : Bool) (timeout : Nat) (s : State) : State :=
  (((s.setTxPayload p).setTxAck ack).setTxTimeout timeout).txGoto .loaded

/-- Accept a host operation: its checks in R371's order, then its latches (60_exceptions R371; 42_configuration
R211; 43_transmit R251; 44_receive_and_queries R301..R311). GET_LINK_STATS returns at once (R311). -/
def accept (op : HostOp) (s : State) : Micro :=
  match op with
  | .init c => whenAdmitted (configAdmitted c) .configInvalid s (.update (s.latchConfig c))
  | .transmit p ack timeout =>
      whenInitialized s (whenAdmitted (payloadAdmitted p) .payloadLength s
        (.update (s.latchTransmit p ack (timeout.getD s.config.txTimeoutUs))))
  | .receive => whenInitialized s (.update (s.setPhase (.busy (.receive .status))))
  | .writeAckPayload p =>
      whenInitialized s (whenAdmitted (payloadAdmitted p) .payloadLength s
        (.update (s.setPhase (.busy (.ackFlush p)))))
  | .getStatus => whenInitialized s (.update (s.setPhase (.busy (.query .status))))
  | .getObserveTx => whenInitialized s (.update (s.setPhase (.busy (.query .observeTx))))
  | .getRpd => whenInitialized s (.update (s.setPhase (.busy (.query .rpd))))
  | .getFifoStatus => whenInitialized s (.update (s.setPhase (.busy (.query .fifoStatus))))
  | .setFrequency mhz =>
      whenInitialized s (whenAdmitted (frequencyAdmitted mhz) .frequencyRange s
        (.update (s.setPhase (.busy (.setFrequency mhz)))))
  | .getFrequency => whenInitialized s (.update (s.setPhase (.busy (.query .frequency))))
  | .getLinkStats => .update (s.pushResult (.linkStats s.stats))

/-- The next micro-step of a running operation (10_state R25, R26). -/
def busyMicro (b : Busy) (s : State) : Micro :=
  match b with
  | .init st => initMicro st s
  | .transmit st => transmitMicro st s
  | .receive st => receiveMicro .receive receiveDone st s
  | .ackFlush _ => .command .flushTx s
  | .ackPreload p => .command (.writeAckPayload .p0 p) s
  | .query q => .command (.read q.reg 1) s
  | .setFrequency mhz => .command (.write .rfCh [channelOf s.params.bits mhz]) s

/-- What a running operation does after a transaction that raised nothing (10_state R26). -/
def busyResume (b : Busy) (s : State) : State :=
  match b with
  | .init st => initResume st s
  | .transmit st => transmitResume st s
  | .receive st => receiveResume .receive receiveDone st s
  | .ackFlush p => s.setPhase (.busy (.ackPreload p))
  | .ackPreload _ => s.finish .idle .done
  | .query q => s.finish .idle (q.result s.params.bits s.rxByte)
  | .setFrequency _ => s.finish .idle .done

end Sys2Proof.Machine
end

