-- ==== Sys2Proof/Machine/Sequencer.lean ====
section
/-! DEFINITION. Which micro-step comes next (10_state R25, R26), and what follows a transaction. -/

namespace Sys2Proof.Machine

/-- In a resting phase the block runs a transaction asked of the channel directly, else takes the host's next
operation (41_channel R196), else waits: the run has ended (70_reset_and_hazards R403). -/
def restMicro (s : State) : Micro :=
  match s.channelCall with
  | some w =>
    match decode s.params w with
    | .ok i => .command i (s.setChannelCall none)
    | .error e => .refuse (.notACommand e)
  | none =>
    match s.requests with
    | [] => .update s
    | op :: ops => accept op (s.setRequests ops)

/-- The next micro-step; from FAULTED there is none (60_exceptions R373). -/
def nextMicro (s : State) : Micro :=
  match s.phase with
  | .uninit => restMicro s
  | .idle => restMicro s
  | .busy b => busyMicro b s
  | .faulted c => .fault (.stopped c)

/-- After a transaction: a running operation goes on with its data; one that raised IO_ERROR or stopped is no
longer running (10_state R26, 60_exceptions R372, R373). -/
def resume (s : State) : State :=
  match s.phase with
  | .busy b => busyResume b s
  | .uninit => s
  | .idle => s
  | .faulted _ => s

/-- A state in a resting phase: a running or stopped phase gives way to the phase the block rests in. -/
def State.atRest (s : State) : State :=
  match s.phase with
  | .uninit => s
  | .idle => s
  | .busy _ => s.setPhase (if s.initialized then .idle else .uninit)
  | .faulted _ => s.setPhase (if s.initialized then .idle else .uninit)

end Sys2Proof.Machine
end

