-- ==== Sys2Proof/Machine/Step.lean ====
section
/-! DEFINITION. One step of the block: one micro-step (10_state R25), a transaction run by exec. -/

namespace Sys2Proof.Machine

/-- One micro-step (10_state R25, R26). A command is run by exec and the running operation goes on with what it
left. -/
def step (s : State) : Host.Outcome State Fault Refusal :=
  match nextMicro s with
  | .command i s₁ =>
    match exec i s₁ with
    | .next t => .next (resume t)
    | .fault f => .fault f
    | .refused r => .refused r
  | .update t => .next t
  | .fault f => .fault f
  | .refuse r => .refused r

/-- `s` with an instruction, numbered as the opcode table numbers it, asked of the channel, in a resting phase,
where the next step runs it (notes/assumptions/2.md). -/
def State.withFetchWord (s : State) (nbits w : Nat) : State :=
  s.atRest.setChannelCall (some (tableWindow nbits w))

end Sys2Proof.Machine
end

