-- ==== Sys2Proof/Safety.lean ====
section
/-! DEFINITION. The terms claims are stated in: when the link answers, what a whole transaction leaves, which
registers a transaction leaves alone, and the invariants of the block. -/

namespace Sys2Proof.Machine

/-! ## Transactions -/

/-- The next `k` calls of the duplex primitive succeed (10_state R21). -/
def State.exchangesSucceed (s : State) (k : Nat) : Prop := ∀ i, i < k → s.env.failAt i = false

/-- How many calls of the duplex primitive a window makes: one for the command byte, one more for a data block
(41_channel R192). -/
def exchangeCount (sent : List Byte) : Nat := if sent = [] then 1 else 2

/-- The status byte the next transaction returns. -/
def State.nextStatus (s : State) : Byte := s.env.byteAt 0

/-- The `n` bytes received during the next transaction's data block. -/
def State.nextData (s : State) (n : Nat) : List Byte := (List.range n).map fun i => s.env.byteAt (i + 1)

/-- The first of them. -/
def State.nextByte (s : State) : Byte := s.env.byteAt 1

/-- The draws after a whole window that sends `sent` after its command byte. -/
def Env.afterWindow (e : Env) (sent : List Byte) : Env :=
  { e with
    miso := e.miso.drop (1 + sent.length), misoDrawn := e.misoDrawn + (1 + sent.length)
    failures := e.failures.drop (exchangeCount sent), failuresDrawn := e.failuresDrawn + exchangeCount sent }

/-- The observable actions of a whole window, newest first: CSN falls, the command byte, the data block if there
is one, CSN rises (41_channel R182, R189). -/
def windowEvents (cmd st : Byte) (sent received : List Byte) : List Event :=
  .pin .csn true ::
    ((if sent = [] then [] else [.exchange sent (some received)]) ++
      [.exchange [cmd] (some [st]), .pin .csn false])

/-- The state a whole window leaves, no exchange failing: the status byte latched, the received bytes kept for a
read, nothing else of the block changed (41_channel R182, R184..R187). -/
def State.completed (s : State) (cmd : Byte) (sent : List Byte) (reading : Bool) : State :=
  { s with
    csn := true
    lastStatus := some s.nextStatus
    rxData := if reading then s.nextData sent.length else []
    env := s.env.afterWindow sent
    trace := windowEvents cmd s.nextStatus sent (s.nextData sent.length) ++ s.trace }

/-- The state a whole one-byte register read leaves: the address and one filler, the NOP command byte, sent
(40_commands R140). -/
def State.completedRead (s : State) (a : BitVec 5) : State :=
  s.completed (a.setWidth 8) [s.params.cmd.nop] true

/-- The state a whole register write leaves (40_commands R141). -/
def State.completedWrite (s : State) (a : BitVec 5) (v : List Byte) : State :=
  s.completed (0x20 ||| a.setWidth 8) v false

/-- The bytes the block sent in the actions given, newest first. -/
def sentBytes : List Event → List Byte
  | [] => []
  | .exchange out _ :: es => sentBytes es ++ out
  | .pin _ _ :: es => sentBytes es
  | .clock _ :: es => sentBytes es

/-- The registers no transaction writes (10_state R20): all but the phase, CSN, the status latch and the
initialized flag, with the model's parameters and the host operations to come. -/
def State.sameRegisters (s t : State) : Prop :=
  t.ce = s.ce ∧ t.cfg = s.cfg ∧ t.stats = s.stats ∧ t.ackBuf = s.ackBuf ∧ t.ackLen = s.ackLen ∧
    t.txPayload = s.txPayload ∧ t.txAck = s.txAck ∧ t.txTimeout = s.txTimeout ∧ t.tPulse = s.tPulse ∧
    t.t0 = s.t0 ∧ t.tWait = s.tWait ∧ t.pollStatus = s.pollStatus ∧ t.finalStatus = s.finalStatus ∧
    t.stOrig = s.stOrig ∧ t.stRead = s.stRead ∧ t.params = s.params ∧ t.channelCall = s.channelCall ∧
    t.requests = s.requests

/-- The state an Exchange that failed leaves: CSN 1, the actions recorded, IO_ERROR returned, the phase and the
initialized flag as 60_exceptions R372 says. -/
def State.ioErrorEnd (s t : State) : Prop :=
  t.csn = true ∧ t.results = .error .ioError :: s.results ∧
    match s.phase with
    | .busy (.init _) => t.phase = .uninit ∧ t.initialized = false
    | .busy _ => t.phase = .idle ∧ t.initialized = s.initialized
    | p => t.phase = p ∧ t.initialized = s.initialized

/-! ## Invariants -/

/-- The latched configuration is there and is one INITIALIZE admits. -/
def State.configured (s : State) : Bool := s.cfg.any configAdmitted

/-- The phase, the initialized flag and the configuration agree (10_state R25, R29; 42_configuration R211,
R229). -/
def State.Coherent (s : State) : Prop :=
  match s.phase with
  | .uninit => s.initialized = false
  | .idle => s.initialized = true ∧ s.configured = true
  | .busy (.init _) => s.initialized = false ∧ s.configured = true
  | .busy _ => s.initialized = true ∧ s.configured = true
  | .faulted _ => True

/-- A width the receive procedure is about to read. -/
def Phase.pendingWidth : Phase → Option Nat
  | .busy (.receive (.payload w)) => some w
  | .busy (.transmit (.drain (.payload w))) => some w
  | _ => none

/-- The acknowledgment buffer has 32 bytes, at most 32 of them valid, and a read about to be made fits it
(10_state R33; 44_receive_and_queries R302, R303). -/
def State.BufferFits (s : State) : Prop :=
  s.ackBuf.length = 32 ∧ s.ackLen ≤ 32 ∧ ∀ w, s.phase.pendingWidth = some w → 1 ≤ w ∧ w ≤ 32

/-- Outside a transaction CSN is 1, once INITIALIZE has driven it (41_channel R183, R191; 42_configuration R213): it
is free before the first INITIALIZE has latched a configuration, and until that one drives it. A transaction asked of
the channel there, with CSN 0, is the fault NESTED_TRANSACTION. -/
def State.CsnIdle (s : State) : Prop :=
  s.csn = true ∨ s.phase = .busy (.init .csnHigh) ∨
    (s.cfg = none ∧ (s.phase = .uninit ∨ s.phase = .faulted .nestedTransaction))

/-- Whether CE may be 1 in a phase (41_channel R191), with the configuration latched: in PULSE, in receiver mode from
the end of INITIALIZE until a transmit lowers it, and before INITIALIZE has lowered it, which in UNINIT means that none
is latched (42_configuration R213). A fault keeps the level of the phase it stopped (60_exceptions R373). -/
def Phase.ceMayBeHigh (latched receiver : Bool) : Phase → Bool
  | .uninit => !latched
  | .idle => receiver
  | .faulted (.widthOutOfRange _) => receiver
  | .faulted .nestedTransaction => receiver || !latched
  | .busy (.init .csnHigh) => true
  | .busy (.init .ceLow) => true
  | .busy (.init .complete) => receiver
  | .busy (.init _) => false
  | .busy (.transmit .loaded) => receiver
  | .busy (.transmit .armedFlush) => receiver
  | .busy (.transmit .armedClear) => receiver
  | .busy (.transmit .pulseRaise) => receiver
  | .busy (.transmit .pulseStamp) => true
  | .busy (.transmit .pulseHold) => true
  | .busy (.transmit .pulseLower) => true
  | .busy (.transmit _) => false
  | .busy _ => receiver

/-- The latched configuration is a receiver's. -/
def State.receiving (s : State) : Bool := s.cfg.any fun c => c.mode == .receiver

/-- CE is 0 wherever 41_channel R191 says so. -/
def State.CeGated (s : State) : Prop :=
  s.ce = true → s.phase.ceMayBeHigh s.cfg.isSome s.receiving = true

/-- The micro-steps only an acknowledged transmit runs: POLL and ACCOUNT (43_transmit R255, R260, R263). -/
def Phase.needsAck : Phase → Bool
  | .busy (.transmit .pollEnter) => true
  | .busy (.transmit .pollRead) => true
  | .busy (.transmit .pollTime) => true
  | .busy (.transmit .pollWaitStart) => true
  | .busy (.transmit .pollWaitHold) => true
  | .busy (.transmit .account) => true
  | .busy (.transmit (.commit _)) => true
  | _ => false

/-- POLL and ACCOUNT run only in a transmit that requested acknowledgment (45_link_quality R348). -/
def State.AckPath (s : State) : Prop := s.phase.needsAck = true → s.txAck = true

/-- The open window's counter under a configuration: a multiple of the attempt charge, below the window's length
(10_state R32). -/
def State.WindowOpen (s : State) (c : RadioConfiguration) : Prop :=
  s.stats.sent < 100 * (c.retransmitCount + 1) ∧ (c.retransmitCount + 1) ∣ s.stats.sent

/-- A phase in which the block accepts a host operation (41_channel R196). -/
def State.resting (s : State) : Prop := s.phase = .uninit ∨ s.phase = .idle

end Sys2Proof.Machine
end

