-- ==== Sys2Proof/Certificates/Slice0/Obligations.lean ====
section
/-! DEFINITION. The statements for the provers, each formalising rules of spec/ named in its docstring. A hypothesis
`s.exchangesSucceed k` says that the next `k` calls of the duplex primitive succeed; what a failing call does is
CommandByteFailureEnds and DataBlockFailureEnds. `s.completed cmd sent reading` (Safety.lean) is `s` after the whole
window of 41_channel R182; `s.completedRead a` and `s.completedWrite a v` are it for a register access. Command bytes,
register addresses and field positions are those of the parameters CMD, REG and BITS, at every value of them; their
values in the spec are stated in ComposedCommandBytes (20_memory R63), CommandTableRowsDisjoint (30_encoding R104) and
the statements about register fields. -/

open Sys2Proof
open Sys2Proof.Machine

/-! ## Encoding (30_encoding) -/

/-- Decoding the window of a well-formed command gives the command back, every operand at every value, in every
value set of CMD and REG that can be read back (R104..R108, R111, R112). -/
def Obligations.DecodeOfEncode : Prop :=
  ∀ (p : Params) (i : Instr), p.Unambiguous → WellFormed i = true → decode p (encode p i) = .ok i

/-- What the decoder accepts is well formed and is the window it was given: the command byte is the window's
first, the data block has the window's length, and a command that does not read is the window whole (R111,
R112). -/
def Obligations.DecodedCommandIsTheWindow : Prop :=
  ∀ (p : Params) (w : List Byte) (i : Instr), decode p w = .ok i →
    WellFormed i = true ∧ w.head? = some (commandByte p i) ∧ w.length = (encode p i).length ∧
      ((∀ r n, i ≠ .read r n) → (∀ n, i ≠ .readPayload n) → i ≠ .readPayloadWidth → w = encode p i)

/-- The register encoder puts the tag in bits 7:5 and the address in bits 4:0, whatever the map (R105), and the map of
the spec is 20_memory R63's; the acknowledgment command ORs the pipe into its low bits (R106). -/
def Obligations.ComposedCommandBytes : Prop :=
  (∀ (m : RegisterMap) (r : Reg),
    composeCommand m r .read = (r.addr m).setWidth 8 ∧
    composeCommand m r .write = 0x20 ||| (r.addr m).setWidth 8 ∧
    composeCommand m r .read &&& 0b11100000 = 0b00000000 ∧
    composeCommand m r .write &&& 0b11100000 = 0b00100000 ∧
    (composeCommand m r .read).extractLsb' 0 5 = r.addr m ∧
    (composeCommand m r .write).extractLsb' 0 5 = r.addr m) ∧
  (∀ p : Pipe, composeAckCommand .default p = 0xA8 ||| p.index.setWidth 8) ∧
  ([.config, .enAa, .enRxaddr, .setupAw, .setupRetr, .rfCh, .rfSetup, .status, .observeTx, .rpd, .rxAddrP0, .rxAddrP1,
      .rxAddrP2, .rxAddrP3, .rxAddrP4, .rxAddrP5, .txAddr, .rxPwP0, .rxPwP1, .rxPwP2, .rxPwP3, .rxPwP4, .rxPwP5,
      .fifoStatus, .dynpd, .feature] : List Reg).map (Reg.addr Params.default.reg) =
    [0x00, 0x01, 0x02, 0x03, 0x04, 0x05, 0x06, 0x07, 0x08, 0x09, 0x0A, 0x0B, 0x0C, 0x0D, 0x0E, 0x0F, 0x10, 0x11, 0x12,
      0x13, 0x14, 0x15, 0x16, 0x17, 0x1C, 0x1D]

/-- The command table at the spec's values is R104's, row by row; no byte matches two rows of it (R111), and no address
names two registers (20_memory R63). -/
def Obligations.CommandTableRowsDisjoint : Prop :=
  opcodeTable Params.default.cmd =
    [⟨.read, 0x00, 0xE0⟩, ⟨.write, 0x20, 0xE0⟩, ⟨.readPayload, 0x61, 0xFF⟩, ⟨.writePayload, 0xA0, 0xFF⟩,
      ⟨.writePayloadNoAck, 0xB0, 0xFF⟩, ⟨.writeAckPayload, 0xA8, 0xF8⟩, ⟨.flushTx, 0xE1, 0xFF⟩,
      ⟨.flushRx, 0xE2, 0xFF⟩, ⟨.reuseTxPayload, 0xE3, 0xFF⟩, ⟨.readPayloadWidth, 0x60, 0xFF⟩,
      ⟨.nop, 0xFF, 0xFF⟩] ∧
  (∀ b : Byte, ∀ r₁ ∈ opcodeTable Params.default.cmd, ∀ r₂ ∈ opcodeTable Params.default.cmd,
    r₁.matches b = true → r₂.matches b = true → r₁ = r₂) ∧
  ∀ r₁ r₂ : Reg, r₁.addr Params.default.reg = r₂.addr Params.default.reg → r₁ = r₂

/-- At the spec's values the example windows of 40_commands (R140..R150) and of V-E4 decode to the
commands they stand for. -/
def Obligations.SpecWindowsDecode : Prop :=
  decode .default [0x1D, 0xFF] = .ok (.read .feature 1) ∧
  decode .default [0x25, 0x32] = .ok (.write .rfCh [0x32]) ∧
  decode .default [0x61, 0xFF, 0xFF] = .ok (.readPayload 2) ∧
  decode .default [0xA0, 0x11, 0x22, 0x33] = .ok (.writePayload [0x11, 0x22, 0x33]) ∧
  decode .default [0xB0, 0x42] = .ok (.writePayloadNoAck [0x42]) ∧
  decode .default [0xA8, 0x55, 0x66] = .ok (.writeAckPayload .p0 [0x55, 0x66]) ∧
  decode .default [0xAB, 0x01] = .ok (.writeAckPayload .p3 [0x01]) ∧
  decode .default [0xE1] = .ok .flushTx ∧ decode .default [0xE2] = .ok .flushRx ∧
  decode .default [0xE3] = .ok .reuseTxPayload ∧
  decode .default [0x60, 0xFF] = .ok .readPayloadWidth ∧ decode .default [0xFF] = .ok .nop

/-- At the spec's values, what the block never emits is refused by name, whatever data follows: READ or WRITE of an
unnamed address, WRITE_ACK_PAYLOAD of pipe 6 or 7, a byte of no row (R110, R111). -/
def Obligations.UnencodableBytesRefused : Prop :=
  ∀ ds : List Byte,
    (∀ a : BitVec 5, a ∈ ([0x18, 0x19, 0x1A, 0x1B, 0x1E, 0x1F] : List (BitVec 5)) →
      decode .default (a.setWidth 8 :: ds) = .error (.unnamedRegister a) ∧
      decode .default ((0x20 ||| a.setWidth 8) :: ds) = .error (.unnamedRegister a)) ∧
    (∀ p : BitVec 3, p = 6 ∨ p = 7 →
      decode .default ((0xA8 ||| p.setWidth 8) :: ds) = .error (.pipeRefused p)) ∧
    (∀ b : Byte,
      (0x40 ≤ b ∧ b ≤ 0x5F) ∨ (0x62 ≤ b ∧ b ≤ 0x9F) ∨ (0xA1 ≤ b ∧ b ≤ 0xA7) ∨ (0xB1 ≤ b ∧ b ≤ 0xE0) ∨
        (0xE4 ≤ b ∧ b ≤ 0xFE) →
      decode .default (b :: ds) = .error (.unknownCommand b))

/-- A transaction is 1 + d bytes long, d as R112 gives it for the command. R112 gives no length for a READ of an address
register, which the block never makes, nor for RX_ADDR_P1: that such a command carries 3, 4 or 5 bytes, as 20_memory R82
makes an access of an address register whole, is the model's choice (notes/assumptions/17.md). -/
def Obligations.TransactionLengths : Prop :=
  ∀ (p : Params) (i : Instr), WellFormed i = true →
    match i with
    | .read r n => encode p i = (r.addr p.reg).setWidth 8 :: List.replicate n p.cmd.nop ∧
        (r ≠ .txAddr → r ≠ .rxAddrP0 → r ≠ .rxAddrP1 → n = 1) ∧
        ((r = .txAddr ∨ r = .rxAddrP0 ∨ r = .rxAddrP1) → 3 ≤ n ∧ n ≤ 5)
    | .write r v => encode p i = (0x20 ||| (r.addr p.reg).setWidth 8) :: v ∧
        (r ≠ .txAddr → r ≠ .rxAddrP0 → r ≠ .rxAddrP1 → v.length = 1) ∧
        ((r = .txAddr ∨ r = .rxAddrP0 ∨ r = .rxAddrP1) → 3 ≤ v.length ∧ v.length ≤ 5)
    | .readPayload n => encode p i = p.cmd.readPayload :: List.replicate n p.cmd.nop ∧ 1 ≤ n ∧ n ≤ 32
    | .writePayload d => encode p i = p.cmd.writePayload :: d ∧ 1 ≤ d.length ∧ d.length ≤ 32
    | .writePayloadNoAck d => encode p i = p.cmd.writePayloadNoAck :: d ∧ 1 ≤ d.length ∧ d.length ≤ 32
    | .writeAckPayload q d =>
        encode p i = (p.cmd.writeAckPayload.setWidth 8 <<< 3 ||| q.index.setWidth 8) :: d ∧
          1 ≤ d.length ∧ d.length ≤ 32
    | .readPayloadWidth => encode p i = [p.cmd.readPayloadWidth, p.cmd.nop]
    | .flushTx => encode p i = [p.cmd.flushTx]
    | .flushRx => encode p i = [p.cmd.flushRx]
    | .reuseTxPayload => encode p i = [p.cmd.reuseTxPayload]
    | .nop => encode p i = [p.cmd.nop]

/-! ## Register values, at the spec's field positions (42_configuration R214..R224) -/

/-- CONFIG holds the interrupt mask in bits 6:4, the CRC width in bits 3:2, the power state in bit 1, the mode in
bit 0, and bit 7 is 0 (R214). -/
def Obligations.ConfigRegisterFields : Prop :=
  ∀ c : RadioConfiguration, configAdmitted c = true →
    (configValue .default c).extractLsb' 4 3 = c.irqMask ∧
    (c.crcWidth = 0 → (configValue .default c).extractLsb' 2 2 = 0b00) ∧
    (c.crcWidth = 1 → (configValue .default c).extractLsb' 2 2 = 0b10) ∧
    (c.crcWidth = 2 → (configValue .default c).extractLsb' 2 2 = 0b11) ∧
    (configValue .default c).getLsbD 1 = c.powerUp ∧
    ((configValue .default c).getLsbD 0 = true ↔ c.mode = .receiver) ∧
    (configValue .default c).getLsbD 7 = false

/-- SETUP_RETR holds the delay in bits 7:4 and the count in bits 3:0 (R218); RF_SETUP the continuous-wave bit, the
data rate in bits 5 and 3, the output power in bits 2:1 (R220). -/
def Obligations.RetransmitAndRadioFields : Prop :=
  ∀ c : RadioConfiguration, configAdmitted c = true →
    ((setupRetrValue .default c).extractLsb' 4 4).toNat = c.retransmitDelay ∧
    ((setupRetrValue .default c).extractLsb' 0 4).toNat = c.retransmitCount ∧
    (rfSetupValue .default c).getLsbD 7 = c.continuousWave ∧
    ((rfSetupValue .default c).extractLsb' 1 2).toNat = c.outputPower ∧
    ((rfSetupValue .default c).getLsbD 5 = true ↔ c.dataRate = .rate250K) ∧
    ((rfSetupValue .default c).getLsbD 3 = true ↔ c.dataRate = .rate2M) ∧
    (rfSetupValue .default c).getLsbD 6 = false ∧ (rfSetupValue .default c).getLsbD 4 = false ∧
    (rfSetupValue .default c).getLsbD 0 = false

/-- The values that are one field of the configuration, or fixed (R215, R216, R217, R219, R222, R223, R224), and
the address, written whole and in list order to both address registers (R221). -/
def Obligations.PlainRegisterValues : Prop :=
  ∀ c : RadioConfiguration, configAdmitted c = true →
    (enAaValue .default c).toNat = c.autoAckMask.toNat ∧
    enRxaddrValue .default = 0x01 ∧
    (setupAwValue .default c).toNat = c.addressWidth ∧
    (rfChValue .default c).toNat = c.channel ∧
    (rxPwValue .default c).toNat = c.staticPayloadWidth ∧
    (dynpdValue .default c = if c.dynamicPayload then 0x01 else 0x00) ∧
    (featureValue c).toNat = 4 * c.dynamicPayload.toNat + 2 * c.ackPayload.toNat + c.dynamicAck.toNat ∧
    CfgReg.value .default c .txAddr = c.address ∧ CfgReg.value .default c .rxAddrP0 = c.address ∧
    c.address.length = c.addressWidth + 2

/-- The bits 20_memory marks reserved (or written 0) in the registers of one byte. -/
def reservedBits : CfgReg → Byte
  | .config => 0x80
  | .enAa => 0xC0
  | .enRxaddr => 0xC0
  | .setupAw => 0xFC
  | .setupRetr => 0x00
  | .rfCh => 0x80
  | .rfSetup => 0x51
  | .txAddr => 0x00
  | .rxAddrP0 => 0x00
  | .rxPwP0 => 0xC0
  | .dynpd => 0xC0
  | .feature => 0xF8

/-- No configuration write sets a reserved bit (40_commands R141; 20_memory R67..R73, R77..R79). -/
def Obligations.ReservedBitsWrittenZero : Prop :=
  ∀ (c : RadioConfiguration) (r : CfgReg), configAdmitted c = true →
    ∀ b ∈ r.value .default c, b &&& reservedBits r = 0

/-! ## Status decoding (10_state R27) -/

/-- decode_status, at the spec's field positions: bits 6, 5, 4 are the flags, bits 3:1 the pipe, bit 0 tx_full, bit 7 is
ignored. -/
def Obligations.StatusDecoding : Prop :=
  ∀ b : Byte,
    (decodeStatus .default b).flags.dataReady = b.getLsbD 6 ∧
    (decodeStatus .default b).flags.dataSent = b.getLsbD 5 ∧
    (decodeStatus .default b).flags.maxRetransmit = b.getLsbD 4 ∧
    (decodeStatus .default b).pipe.toNat = b.toNat / 2 % 8 ∧
    (decodeStatus .default b).txFull = b.getLsbD 0 ∧
    decodeStatus .default (b ^^^ 0x80) = decodeStatus .default b

/-! ## The transaction channel (41_channel) and the commands (40_commands) -/

/-- WRITE, WRITE_PAYLOAD, WRITE_PAYLOAD_NO_ACK and WRITE_ACK_PAYLOAD send the command byte and the block in one
window, latch the status byte and discard what is received; no other register changes (R141, R143..R145, R182,
R184, R185). -/
def Obligations.WriteClassCompletes : Prop :=
  ∀ (s : State) (v : List Byte), s.csn = true → s.exchangesSucceed (exchangeCount v) →
    (∀ r, exec (.write r v) s =
      .next (s.completed (0x20 ||| (r.addr s.params.reg).setWidth 8) v false)) ∧
    exec (.writePayload v) s = .next (s.completed s.params.cmd.writePayload v false) ∧
    exec (.writePayloadNoAck v) s = .next (s.completed s.params.cmd.writePayloadNoAck v false) ∧
    ∀ p, exec (.writeAckPayload p v) s =
      .next (s.completed (s.params.cmd.writeAckPayload.setWidth 8 <<< 3 ||| p.index.setWidth 8) v false)

/-- READ, READ_PAYLOAD and READ_PAYLOAD_WIDTH send the command byte and n fillers, the NOP command byte, in one window,
latch the status byte and return the n bytes received, in order (R140, R142, R149, R181, R182, R184, R186). -/
def Obligations.ReadClassCompletes : Prop :=
  ∀ (s : State), s.csn = true →
    (∀ n, s.exchangesSucceed (exchangeCount (List.replicate n s.params.cmd.nop)) →
      (∀ r, exec (.read r n) s =
        .next (s.completed ((r.addr s.params.reg).setWidth 8) (List.replicate n s.params.cmd.nop) true)) ∧
      exec (.readPayload n) s =
        .next (s.completed s.params.cmd.readPayload (List.replicate n s.params.cmd.nop) true)) ∧
    (s.exchangesSucceed 2 →
      exec .readPayloadWidth s = .next (s.completed s.params.cmd.readPayloadWidth [s.params.cmd.nop] true))

/-- FLUSH_TX, FLUSH_RX, REUSE_TX_PAYLOAD and NOP exchange the command byte alone and latch the status byte
(R146..R148, R150, R182, R184, R187). -/
def Obligations.CommandClassCompletes : Prop :=
  ∀ (s : State), s.csn = true → s.exchangesSucceed 1 →
    exec .flushTx s = .next (s.completed s.params.cmd.flushTx [] false) ∧
    exec .flushRx s = .next (s.completed s.params.cmd.flushRx [] false) ∧
    exec .reuseTxPayload s = .next (s.completed s.params.cmd.reuseTxPayload [] false) ∧
    exec .nop s = .next (s.completed s.params.cmd.nop [] false)

/-- An exchange that fails on the command byte: CSN returns to 1, IO_ERROR ends the operation, the status latch
keeps its byte, no data byte is sent (R182 line 4, R188; 60_exceptions R372). R372 speaks of a running operation; that a
resting or stopped phase and its initialized flag stay (the last case of ioErrorEnd, a transaction asked of the channel
directly) is the model's choice (notes/assumptions/14.md). -/
def Obligations.CommandByteFailureEnds : Prop :=
  ∀ (i : Instr) (s : State), s.csn = true → s.env.failAt 0 = true →
    ∃ t, exec i s = .next t ∧ s.ioErrorEnd t ∧ s.sameRegisters t ∧ t.lastStatus = s.lastStatus ∧
      t.trace = .pin .csn true :: .exchange [commandByte s.params i] none :: .pin .csn false :: s.trace

/-- An exchange that fails on the data block: the same, but the status latch holds the status byte of the command
byte's exchange (R182 line 11, R188; 60_exceptions R372). As there, the phase and the flag kept in a resting or stopped
phase are the model's choice (notes/assumptions/14.md). -/
def Obligations.DataBlockFailureEnds : Prop :=
  ∀ (i : Instr) (s : State), s.csn = true → dataBlock s.params i ≠ [] → s.env.failAt 0 = false →
    s.env.failAt 1 = true →
    ∃ t, exec i s = .next t ∧ s.ioErrorEnd t ∧ s.sameRegisters t ∧ t.lastStatus = some s.nextStatus ∧
      t.trace = .pin .csn true :: .exchange (dataBlock s.params i) none ::
        .exchange [commandByte s.params i] (some [s.nextStatus]) :: .pin .csn false :: s.trace

/-- A transaction begun with CSN 0 stops the block in FAULTED(NESTED_TRANSACTION), the pins and everything else as
they were (R183; 60_exceptions R373). -/
def Obligations.NestedTransactionStops : Prop :=
  ∀ (i : Instr) (s : State), s.csn = false →
    exec i s = .next { s with phase := .faulted .nestedTransaction }

/-- The frame of every command, in every state and whatever the link answers: the registers no transaction writes
keep their values, the clock is not read, CSN stays 1; the phase, the initialized flag and the results change only
as an error or a fault changes them (40_commands, introduction; 41_channel R188, R189; 60_exceptions R372). What an
error leaves of a resting or stopped phase is the model's choice (notes/assumptions/14.md). -/
def Obligations.CommandFrame : Prop :=
  ∀ (i : Instr) (s t : State), exec i s = .next t →
    s.sameRegisters t ∧ t.csn = s.csn ∧ t.env.now = s.env.now ∧ t.env.ticksDrawn = s.env.ticksDrawn ∧
    t.env.ticks = s.env.ticks ∧
    ((t.phase = s.phase ∧ t.initialized = s.initialized ∧ t.results = s.results) ∨
      s.ioErrorEnd t ∨
      (s.csn = false ∧ t = { s with phase := .faulted .nestedTransaction }))

/-- The window is unbroken: between CSN falling and CSN rising there are exchanges and nothing else, and CSN rises
on every exit (R188, R189). -/
def Obligations.WindowUnbroken : Prop :=
  ∀ (i : Instr) (s t : State), s.csn = true → exec i s = .next t →
    t.csn = true ∧
    ∃ es, t.trace = .pin .csn true :: es ++ .pin .csn false :: s.trace ∧ es ≠ [] ∧
      ∀ e ∈ es, ∃ out answer, e = .exchange out answer

/-- The bytes a completed command puts on the wire are its encoding, in order (R100, R108, R112, R192; 20_memory
R80). -/
def Obligations.WindowCarriesEncoding : Prop :=
  ∀ (i : Instr) (s : State), s.csn = true → s.exchangesSucceed (exchangeCount (dataBlock s.params i)) →
    ∃ t es, exec i s = .next t ∧ t.trace = es ++ s.trace ∧ sentBytes es = encode s.params i

/-! ## The step (10_state R25, R26) -/

/-- When the window asked of the channel decodes to a command and the block rests, the step is exec of the command
on the state with the request taken; nothing is added around it. -/
def Obligations.StepRunsRequestedCommand : Prop :=
  ∀ (s : State) (w : List Byte) (i : Instr), s.resting → s.channelCall = some w → decode s.params w = .ok i →
    step s = exec i { s with channelCall := none }

/-- Where CMD and REG are the opcode table's, an instruction placed as the opcode table numbers it is the next thing the
step runs (the model's own port: notes/assumptions/2.md). -/
def Obligations.StepRunsPlacedWord : Prop :=
  ∀ (s : State) (nbits w : Nat) (i : Instr), s.params.cmd = .default → s.params.reg = .default →
    decodeTableWord nbits w = some i →
    step (s.withFetchWord nbits w) = exec i { s.atRest with channelCall := none } ∧
      (s.resting → s.atRest = s)

/-- When a running operation's micro-step is a transaction, the step is exec of its command, after which the
operation goes on with what was read if it still runs, and nothing is added if it was ended (R25, R26). -/
def Obligations.StepRunsOperationCommand : Prop :=
  ∀ (s t : State) (b : Busy) (i : Instr), s.phase = .busy b → busyMicro b s = .command i s →
    exec i s = .next t →
    step s = .next (resume t) ∧ (t.phase = .busy b → resume t = busyResume b t) ∧
      ((∀ b', t.phase ≠ .busy b') → resume t = t)

/-- FAULTED is a phase from which the block has no step, and the only one from which a step faults (60_exceptions R373,
R386); at rest with nothing asked of it the block waits (70_reset_and_hazards R403: the run has ended). -/
def Obligations.FaultedStopsAndRestWaits : Prop :=
  (∀ (s : State) (c : FaultCode), s.phase = .faulted c → step s = .fault (.stopped c)) ∧
  (∀ (s : State) (f : Fault), step s = .fault f → ∃ c, s.phase = .faulted c ∧ f = .stopped c) ∧
  ∀ (s : State), s.resting → s.channelCall = none → s.requests = [] → step s = .next s

/-! ## Reset (10_state R40, 70_reset_and_hazards R400) -/

/-- The values R40 states, at power-on with any pin levels and parameters; the reset state is the power-on state
with the model's choice of both (notes/assumptions/6.md, 7.md). -/
def Obligations.PowerOnValues : Prop :=
  (∀ (csn ce : Bool) (p : Params),
    (State.powerOn csn ce p).phase = .uninit ∧ (State.powerOn csn ce p).lastStatus = none ∧
    (State.powerOn csn ce p).initialized = false ∧ (State.powerOn csn ce p).cfg = none ∧
    (State.powerOn csn ce p).stats = ⟨0, 0, 0⟩ ∧ (State.powerOn csn ce p).ackLen = 0 ∧
    (State.powerOn csn ce p).csn = csn ∧ (State.powerOn csn ce p).ce = ce) ∧
  State.reset = State.powerOn true false Params.default

/-! ## INITIALIZE (42_configuration) -/

/-- Step 0 (R211): a configuration that fails R31's check is refused with CONFIG_INVALID and nothing else changes;
another is latched and the initialized flag cleared. -/
def Obligations.InitializeChecksAndLatches : Prop :=
  ∀ (s : State) (c : RadioConfiguration) (ops : List HostOp), s.resting → s.channelCall = none →
    s.requests = .init c :: ops →
    (configAdmitted c = true ↔
      c.crcWidth ≤ 2 ∧ c.retransmitDelay ≤ 15 ∧ c.retransmitCount ≤ 15 ∧ c.channel ≤ 127 ∧
        c.outputPower ≤ 3 ∧ 1 ≤ c.addressWidth ∧ c.addressWidth ≤ 3 ∧
        c.address.length = c.addressWidth + 2 ∧ c.staticPayloadWidth ≤ 32) ∧
    (configAdmitted c = false →
      step s = .next { s with requests := ops, results := .error .configInvalid :: s.results }) ∧
    (configAdmitted c = true →
      step s = .next { s with
        requests := ops, cfg := some c, initialized := false, phase := .busy (.init .csnHigh) })

/-- Step 1 (R212): CSN 1, then CE 0, then a wait of T_POWERUP_US: the clock is read into t_wait and again until the
difference reaches it (41_channel R193). What a reading and a difference are, here and in every other wait (10_state
R23, R35; 41_channel R194): without CLOCK_BITS the reading is the next one of a clock that never goes back and the
difference is the natural one; with CLOCK_BITS = k the reading is taken modulo 2^k, and so is the difference of two
readings (that a reading wraps so is log entry 20, DEDUCED). -/
def Obligations.InitializePinsAndSettle : Prop :=
  ∀ s : State,
    (s.phase = .busy (.init .csnHigh) → step s = .next { s with
      csn := true, trace := .pin .csn true :: s.trace, phase := .busy (.init .ceLow) }) ∧
    (s.phase = .busy (.init .ceLow) → step s = .next { s with
      ce := false, trace := .pin .ce false :: s.trace, phase := .busy (.init .waitStart) }) ∧
    (s.phase = .busy (.init .waitStart) → step s = .next { s with
      env := s.env.tick, trace := .clock s.now :: s.trace, tWait := s.now
      phase := .busy (.init .waitHold) }) ∧
    (s.phase = .busy (.init .waitHold) → step s = .next { s with
      env := s.env.tick, trace := .clock s.now :: s.trace
      phase := if elapsed s.params s.now s.tWait ≥ s.params.powerupUs then .busy (.init .testRead)
        else .busy (.init .waitHold) }) ∧
    s.env.now ≤ s.env.reading ∧ s.env.tick.now = s.env.reading ∧
    (s.params.clockBits = none →
      s.now = s.env.reading ∧ ∀ t t', elapsed s.params t t' = t - t') ∧
    ∀ k, s.params.clockBits = some k →
      s.now = s.env.reading % 2 ^ k ∧
      ∀ t t', t' ≤ t → elapsed s.params (t % 2 ^ k) (t' % 2 ^ k) = (t - t') % 2 ^ k

/-- Step 2 (R213): read FEATURE, write it with bit 0 flipped, read it back, restore it; then pass exactly when the
whole byte read back is the byte written, and otherwise return false, not initialized. -/
def Obligations.SelfTestOfFeature : Prop :=
  ∀ s : State,
    (s.csn = true → s.exchangesSucceed 2 →
      (s.phase = .busy (.init .testRead) → step s = .next { s.completedRead s.params.reg.feature with
        stOrig := s.nextByte, phase := .busy (.init .testFlip) }) ∧
      (s.phase = .busy (.init .testFlip) → step s = .next {
        s.completedWrite s.params.reg.feature [s.stOrig ^^^ 0x01] with
        phase := .busy (.init .testReadBack) }) ∧
      (s.phase = .busy (.init .testReadBack) → step s = .next { s.completedRead s.params.reg.feature with
        stRead := s.nextByte, phase := .busy (.init .testRestore) }) ∧
      (s.phase = .busy (.init .testRestore) → step s = .next { s.completedWrite s.params.reg.feature [s.stOrig] with
        phase := .busy (.init .testCompare) })) ∧
    (s.phase = .busy (.init .testCompare) →
      (s.stRead ≠ s.stOrig ^^^ 0x01 → step s = .next { s with
        initialized := false, phase := .uninit, results := .initialized false :: s.results }) ∧
      (s.stRead = s.stOrig ^^^ 0x01 → step s = .next { s with
        phase := .busy (.init (.program s.params.configWriteOrder)) }))

/-- Step 3 (R225): each write of the order is one register write of the value composed from the configuration, and
the flushes follow the last. The default order is R225's list, and at the spec's values each register has its command
byte and its data of R225's table, whatever the order. -/
def Obligations.RegistersProgrammedInOrder : Prop :=
  (∀ (s : State) (c : RadioConfiguration) (r : CfgReg) (rest : List CfgReg),
    s.phase = .busy (.init (.program (r :: rest))) → s.cfg = some c → s.csn = true →
    s.exchangesSucceed (exchangeCount (r.value s.params.bits c)) →
    step s = .next { s.completedWrite (r.reg.addr s.params.reg) (r.value s.params.bits c) with
      phase := .busy (.init (.program rest)) }) ∧
  (∀ s : State, s.phase = .busy (.init (.program [])) →
    step s = .next { s with phase := .busy (.init .flushTx) }) ∧
  (Params.default.configWriteOrder =
    [.config, .enAa, .enRxaddr, .setupAw, .setupRetr, .rfCh, .rfSetup, .txAddr, .rxAddrP0, .rxPwP0, .dynpd,
      .feature]) ∧
  (∀ (b : FieldPositions) (c : RadioConfiguration),
    ([.config, .enAa, .enRxaddr, .setupAw, .setupRetr, .rfCh, .rfSetup, .txAddr, .rxAddrP0, .rxPwP0, .dynpd,
        .feature] : List CfgReg).map
      (fun r => (composeCommand Params.default.reg r.reg .write, r.value b c)) =
    [(0x20, [configValue b c]), (0x21, [enAaValue b c]), (0x22, [enRxaddrValue b]), (0x23, [setupAwValue b c]),
      (0x24, [setupRetrValue b c]), (0x25, [rfChValue b c]), (0x26, [rfSetupValue b c]),
      (0x30, addressValue c), (0x2A, addressValue c), (0x31, [rxPwValue b c]), (0x3C, [dynpdValue b c]),
      (0x3D, [featureValue c])]) ∧
  enRxaddrValue .default = 0x01 ∧
  ∀ c : RadioConfiguration, configAdmitted c = true →
    addressValue c = c.address ∧ (addressValue c).length = c.addressWidth + 2

/-- Steps 4 and 5: FLUSH_TX, FLUSH_RX, CLEAR_INTERRUPTS (R226); REUSE_TX_PAYLOAD exactly when it is configured
(R227). The value written to STATUS is 0x70 at the spec's field positions (40_commands R160). -/
def Obligations.InitializeFlushesAndClears : Prop :=
  clearValue .default = 0x70 ∧
  ∀ s : State, s.csn = true → s.exchangesSucceed 2 →
    (s.phase = .busy (.init .flushTx) → step s = .next { s.completed s.params.cmd.flushTx [] false with
      phase := .busy (.init .flushRx) }) ∧
    (s.phase = .busy (.init .flushRx) → step s = .next { s.completed s.params.cmd.flushRx [] false with
      phase := .busy (.init .clearFlags) }) ∧
    (s.phase = .busy (.init .clearFlags) → step s = .next {
      s.completedWrite s.params.reg.status [clearValue s.params.bits] with
      phase := .busy (.init .reuse) }) ∧
    (∀ c, s.phase = .busy (.init .reuse) → s.cfg = some c → c.txReuse = true →
      step s = .next { s.completed s.params.cmd.reuseTxPayload [] false with phase := .busy (.init .chipEnable) }) ∧
    (∀ c, s.phase = .busy (.init .reuse) → s.cfg = some c → c.txReuse = false →
      step s = .next { s with phase := .busy (.init .chipEnable) })

/-- Steps 6 and 7: CE is raised in receiver mode and left alone otherwise (R228); the block is initialized, IDLE,
and returns true (R229). -/
def Obligations.ChipEnableAndCompletion : Prop :=
  ∀ s : State,
    (∀ c, s.phase = .busy (.init .chipEnable) → s.cfg = some c →
      (c.mode = .receiver → step s = .next { s with
        ce := true, trace := .pin .ce true :: s.trace, phase := .busy (.init .complete) }) ∧
      (c.mode = .transmitter → step s = .next { s with phase := .busy (.init .complete) })) ∧
    (s.phase = .busy (.init .complete) → step s = .next { s with
      initialized := true, phase := .idle, results := .initialized true :: s.results })

/-! ## TRANSMIT (43_transmit) -/

/-- The check and the latch (R251): NOT_INITIALIZED first, then PAYLOAD_LENGTH, with nothing else changed;
otherwise the operands are latched, the configured timeout where the host gives none (R250). -/
def Obligations.TransmitChecksAndLatches : Prop :=
  ∀ (s : State) (p : List Byte) (ack : Bool) (timeout : Option Nat) (ops : List HostOp),
    s.resting → s.channelCall = none → s.requests = .transmit p ack timeout :: ops →
    (s.initialized = false →
      step s = .next { s with requests := ops, results := .error .notInitialized :: s.results }) ∧
    (s.initialized = true → (p.length = 0 ∨ p.length > 32) →
      step s = .next { s with requests := ops, results := .error .payloadLength :: s.results }) ∧
    (∀ c, s.initialized = true → 1 ≤ p.length → p.length ≤ 32 → s.cfg = some c →
      step s = .next { s with
        requests := ops, txPayload := p, txAck := ack, txTimeout := timeout.getD c.txTimeoutUs
        phase := .busy (.transmit .loaded) })

/-- LOADED (R252): the payload goes out with WRITE_PAYLOAD or WRITE_PAYLOAD_NO_ACK; ARMED (R253): FLUSH_RX, then
CLEAR_INTERRUPTS. -/
def Obligations.LoadedAndArmed : Prop :=
  ∀ s : State, s.csn = true → s.exchangesSucceed 2 →
    (s.phase = .busy (.transmit .loaded) →
      step s = .next { s.completed
        (if s.txAck then s.params.cmd.writePayload else s.params.cmd.writePayloadNoAck) s.txPayload false with
        phase := .busy (.transmit .armedFlush) }) ∧
    (s.phase = .busy (.transmit .armedFlush) → step s = .next { s.completed s.params.cmd.flushRx [] false with
      phase := .busy (.transmit .armedClear) }) ∧
    (s.phase = .busy (.transmit .armedClear) → step s = .next {
      s.completedWrite s.params.reg.status [clearValue s.params.bits] with
      phase := .busy (.transmit .pulseRaise) })

/-- PULSE (R254): CE 1, the clock into t_pulse, readings until at least 25 us have passed, CE 0; then POLL if
acknowledgment was requested, else SETTLE (R255). No step of PULSE is a transaction. -/
def Obligations.PulseHeldAndLowered : Prop :=
  ∀ s : State,
    (s.phase = .busy (.transmit .pulseRaise) → step s = .next { s with
      ce := true, trace := .pin .ce true :: s.trace, phase := .busy (.transmit .pulseStamp) }) ∧
    (s.phase = .busy (.transmit .pulseStamp) → step s = .next { s with
      env := s.env.tick, trace := .clock s.now :: s.trace, tPulse := s.now
      phase := .busy (.transmit .pulseHold) }) ∧
    (s.phase = .busy (.transmit .pulseHold) → step s = .next { s with
      env := s.env.tick, trace := .clock s.now :: s.trace
      phase := if elapsed s.params s.now s.tPulse ≥ 25 then .busy (.transmit .pulseLower)
        else .busy (.transmit .pulseHold) }) ∧
    (s.phase = .busy (.transmit .pulseLower) → step s = .next { s with
      ce := false, trace := .pin .ce false :: s.trace
      phase := if s.txAck then .busy (.transmit .pollEnter) else .busy (.transmit .settleStart) })

/-- POLL (R255, R256): t0 is read, then each iteration reads STATUS and ends POLL on any flag, else reads the clock
and ends POLL when the timeout has passed since t0, else waits the poll interval, if there is one, and
repeats. -/
def Obligations.PollIterates : Prop :=
  ∀ s : State,
    (s.phase = .busy (.transmit .pollEnter) → step s = .next { s with
      env := s.env.tick, trace := .clock s.now :: s.trace, t0 := s.now
      phase := .busy (.transmit .pollRead) }) ∧
    (s.phase = .busy (.transmit .pollRead) → s.csn = true → s.exchangesSucceed 2 →
      let f := (decodeStatus s.params.bits s.nextByte).flags
      step s = .next { s.completedRead s.params.reg.status with
        pollStatus := s.nextByte
        phase := if f.dataReady || f.dataSent || f.maxRetransmit
          then .busy (.transmit .settleStart) else .busy (.transmit .pollTime) }) ∧
    (s.phase = .busy (.transmit .pollTime) → step s = .next { s with
      env := s.env.tick, trace := .clock s.now :: s.trace
      phase := if elapsed s.params s.now s.t0 ≥ s.txTimeout then .busy (.transmit .settleStart)
        else if s.params.pollIntervalUs > 0 then .busy (.transmit .pollWaitStart)
        else .busy (.transmit .pollRead) }) ∧
    (s.phase = .busy (.transmit .pollWaitStart) → step s = .next { s with
      env := s.env.tick, trace := .clock s.now :: s.trace, tWait := s.now
      phase := .busy (.transmit .pollWaitHold) }) ∧
    (s.phase = .busy (.transmit .pollWaitHold) → step s = .next { s with
      env := s.env.tick, trace := .clock s.now :: s.trace
      phase := if elapsed s.params s.now s.tWait ≥ s.params.pollIntervalUs
        then .busy (.transmit .pollRead) else .busy (.transmit .pollWaitHold) })

/-- SETTLE (R258): a wait of at least 50 us, then the final status read, whatever the acknowledgment request; then
DRAIN (R259). -/
def Obligations.SettleReadsFinalStatus : Prop :=
  ∀ s : State,
    (s.phase = .busy (.transmit .settleStart) → step s = .next { s with
      env := s.env.tick, trace := .clock s.now :: s.trace, tWait := s.now
      phase := .busy (.transmit .settleHold) }) ∧
    (s.phase = .busy (.transmit .settleHold) → step s = .next { s with
      env := s.env.tick, trace := .clock s.now :: s.trace
      phase := if elapsed s.params s.now s.tWait ≥ 50 then .busy (.transmit .settleRead)
        else .busy (.transmit .settleHold) }) ∧
    (s.phase = .busy (.transmit .settleRead) → s.csn = true → s.exchangesSucceed 2 →
      step s = .next { s.completedRead s.params.reg.status with
        finalStatus := s.nextByte, phase := .busy (.transmit (.drain .status)) })

/-- REARM (R261): REUSE_TX_PAYLOAD exactly when it is configured; the return (R262): IDLE, with the final read's
flags and the valid bytes of the buffer. -/
def Obligations.RearmAndReturn : Prop :=
  ∀ s : State,
    (∀ c, s.phase = .busy (.transmit .rearm) → s.cfg = some c →
      (c.txReuse = true → s.csn = true → s.exchangesSucceed 1 →
        step s = .next { s.completed s.params.cmd.reuseTxPayload [] false with phase := .busy (.transmit .finish) }) ∧
      (c.txReuse = false → step s = .next { s with phase := .busy (.transmit .finish) })) ∧
    (s.phase = .busy (.transmit .finish) → step s = .next { s with
      phase := .idle
      results := .outcome (decodeStatus s.params.bits s.finalStatus).flags (s.ackBuf.take s.ackLen) s.ackLen ::
        s.results })

/-! ## The receive procedure (44_receive_and_queries R301..R303), in RECEIVE and in DRAIN (43_transmit R259) -/

/-- Where a transmit goes after DRAIN: ACCOUNT if acknowledgment was requested, else REARM (43_transmit R260). -/
def afterDrain (s : State) : Phase :=
  if s.txAck then .busy (.transmit .account) else .busy (.transmit .rearm)

/-- The pipe test (R301): after one STATUS read, any pipe field but 0 gives length 0 and no further
transaction. -/
def Obligations.ReceivePipeTest : Prop :=
  ∀ s : State, s.csn = true → s.exchangesSucceed 2 →
    (s.phase = .busy (.receive .status) →
      ((decodeStatus s.params.bits s.nextByte).pipe ≠ 0 → step s = .next { s.completedRead s.params.reg.status with
        ackLen := 0, phase := .idle, results := .received 0 [] :: s.results }) ∧
      ((decodeStatus s.params.bits s.nextByte).pipe = 0 → step s = .next { s.completedRead s.params.reg.status with
        phase := .busy (.receive .length) })) ∧
    (s.phase = .busy (.transmit (.drain .status)) →
      ((decodeStatus s.params.bits s.nextByte).pipe ≠ 0 → step s = .next { s.completedRead s.params.reg.status with
        ackLen := 0, phase := afterDrain s }) ∧
      ((decodeStatus s.params.bits s.nextByte).pipe = 0 → step s = .next { s.completedRead s.params.reg.status with
        phase := .busy (.transmit (.drain .length)) }))

/-- What the receive procedure does once the width is known, in the state `t` that knows it (R302, R303): 0 ends it
with length 0, above 32 is the fault WIDTH_OUT_OF_RANGE, else the payload is read. -/
def afterWidth (w : Nat) (t : State) (reading : Phase) (ended : State) : State :=
  if w = 0 then ended
  else if w > 32 then { t with phase := .faulted (.widthOutOfRange w) }
  else { t with phase := reading }

/-- The length (R302, R303): the chip's width where dynamic payloads are on, else the configured one, with no
transaction. That a configured width above 32 is the fault too, as R302's listing tests it, is log entry 18 (DEDUCED:
R303 speaks of a dynamic width only, and no admitted configuration has such a width). -/
def Obligations.ReceiveLength : Prop :=
  ∀ (s : State) (c : RadioConfiguration), s.cfg = some c →
    (c.dynamicPayload = true → s.csn = true → s.exchangesSucceed 2 →
      let t := s.completed s.params.cmd.readPayloadWidth [s.params.cmd.nop] true
      let w := s.nextByte.toNat
      (s.phase = .busy (.receive .length) →
        step s = .next (afterWidth w t (.busy (.receive (.payload w)))
          { t with ackLen := 0, phase := .idle, results := .received 0 [] :: s.results })) ∧
      (s.phase = .busy (.transmit (.drain .length)) →
        step s = .next (afterWidth w t (.busy (.transmit (.drain (.payload w))))
          { t with ackLen := 0, phase := afterDrain s }))) ∧
    (c.dynamicPayload = false →
      let w := c.staticPayloadWidth
      (s.phase = .busy (.receive .length) →
        step s = .next (afterWidth w s (.busy (.receive (.payload w)))
          { s with ackLen := 0, phase := .idle, results := .received 0 [] :: s.results })) ∧
      (s.phase = .busy (.transmit (.drain .length)) →
        step s = .next (afterWidth w s (.busy (.transmit (.drain (.payload w))))
          { s with ackLen := 0, phase := afterDrain s })))

/-- The read (R302): READ_PAYLOAD of the width; the first bytes of the buffer become the bytes received, in the
order received, the others stay. -/
def Obligations.ReceiveStoresPayload : Prop :=
  ∀ (s : State) (w : Nat), 1 ≤ w → s.csn = true → s.exchangesSucceed 2 →
    let t := { s.completed s.params.cmd.readPayload (List.replicate w s.params.cmd.nop) true with
      ackBuf := s.nextData w ++ s.ackBuf.drop w, ackLen := w }
    (s.phase = .busy (.receive (.payload w)) →
      step s = .next { t with phase := .idle, results := .received w (s.nextData w) :: s.results }) ∧
    (s.phase = .busy (.transmit (.drain (.payload w))) →
      step s = .next { t with phase := afterDrain s })

/-- The receive procedure leaves the flags, the FIFOs and CE (R312): whatever a step of it does, CE keeps its level, no
CE write is made, and no FLUSH_TX, FLUSH_RX or STATUS write is sent, in every value set whose command bytes tell these
apart. -/
def Obligations.ReceiveLeavesFlagsAndPins : Prop :=
  ∀ (s t : State) (st : ReceiveStep), s.params.Unambiguous →
    (s.phase = .busy (.receive st) ∨ s.phase = .busy (.transmit (.drain st))) → step s = .next t →
    t.ce = s.ce ∧ t.csn = s.csn ∧
    ∃ es, t.trace = es ++ s.trace ∧ ∀ e ∈ es, (∀ v, e ≠ .pin .ce v) ∧
      ∀ r, e ≠ .exchange [s.params.cmd.flushTx] r ∧ e ≠ .exchange [s.params.cmd.flushRx] r ∧
        e ≠ .exchange [composeCommand s.params.reg .status .write] r

/-! ## ACCOUNT (45_link_quality) -/

/-- ACCOUNT's transaction: FLUSH_TX when the final flags are empty or hold MAX_RETRANSMIT (R342, R343), else the
OBSERVE_TX read, whose retransmit count, bits 3:0 at the spec's positions, is kept for the commit (R344). -/
def Obligations.AccountTransaction : Prop :=
  ∀ s : State, s.phase = .busy (.transmit .account) → s.csn = true → s.exchangesSucceed 2 →
    let f := (decodeStatus s.params.bits s.finalStatus).flags
    ((f.maxRetransmit = true ∨ (f.dataReady = false ∧ f.dataSent = false)) →
      step s = .next { s.completed s.params.cmd.flushTx [] false with phase := .busy (.transmit (.commit none)) }) ∧
    (f.maxRetransmit = false → (f.dataReady = true ∨ f.dataSent = true) →
      step s = .next { s.completedRead s.params.reg.observeTx with
        phase := .busy (.transmit (.commit (some
          (s.nextByte.extractLsb' s.params.bits.observeRetransmits 4).toNat))) })

/-- ACCOUNT's commit (R341, R343..R345, R347): `sent` grows by ARC + 1; `lost` by ARC + 1 after a failure, else by
the retransmits read; at 100 x (ARC + 1) the window closes. -/
def Obligations.AccountCommit : Prop :=
  ∀ (s : State) (c : RadioConfiguration) (retries : Option Nat), s.cfg = some c →
    s.phase = .busy (.transmit (.commit retries)) →
    let n := c.retransmitCount + 1
    let sent := s.stats.sent + n
    let lost := s.stats.lost + retries.getD n
    (sent < 100 * n → step s = .next { s with
      stats := ⟨sent, lost, s.stats.quality⟩, phase := .busy (.transmit .rearm) }) ∧
    (sent ≥ 100 * n → step s = .next { s with
      stats := ⟨0, 0, quality sent lost⟩, phase := .busy (.transmit .rearm) })

/-- The quality formula (R346): 0 when `lost >= sent`, else the percentage delivered, truncated; always 0..100. -/
def Obligations.QualityFormula : Prop :=
  ∀ sent lost : Nat,
    quality sent lost ≤ 100 ∧ (lost ≥ sent → quality sent lost = 0) ∧
    (lost < sent →
      quality sent lost * sent ≤ 100 * (sent - lost) ∧ 100 * (sent - lost) < (quality sent lost + 1) * sent)

/-! ## Queries, frequency, acknowledgment preload (44_receive_and_queries) -/

/-- Each query reads its one register and returns the byte read decoded (R305..R308, R310), at the positions BITS gives;
the last clause gives the spec's own. -/
def Obligations.QueriesReturnDecodedByte : Prop :=
  (∀ s : State, s.csn = true → s.exchangesSucceed 2 →
    let b := s.nextByte
    let f := s.params.bits
    (s.phase = .busy (.query .status) → step s = .next { s.completedRead s.params.reg.status with
      phase := .idle, results := .status (decodeStatus f b) :: s.results }) ∧
    (s.phase = .busy (.query .observeTx) → step s = .next { s.completedRead s.params.reg.observeTx with
      phase := .idle
      results :=
        .observeTx ⟨b.extractLsb' f.observeLost 4, b.extractLsb' f.observeRetransmits 4⟩ :: s.results }) ∧
    (s.phase = .busy (.query .rpd) → step s = .next { s.completedRead s.params.reg.rpd with
      phase := .idle, results := .rpd (b.getLsbD f.rpd) :: s.results }) ∧
    (s.phase = .busy (.query .fifoStatus) → step s = .next { s.completedRead s.params.reg.fifoStatus with
      phase := .idle
      results := .fifoStatus ⟨b.getLsbD f.fifoTxReuse, b.getLsbD f.fifoTxFull, b.getLsbD f.fifoTxEmpty,
        b.getLsbD f.fifoRxFull, b.getLsbD f.fifoRxEmpty⟩ :: s.results }) ∧
    (s.phase = .busy (.query .frequency) → step s = .next { s.completedRead s.params.reg.rfCh with
      phase := .idle
      results := .frequency (2400 + (b.extractLsb' f.channel 7).toNat) :: s.results })) ∧
  FieldPositions.default.observeLost = 4 ∧ FieldPositions.default.observeRetransmits = 0 ∧
  FieldPositions.default.rpd = 0 ∧ FieldPositions.default.fifoTxReuse = 6 ∧ FieldPositions.default.fifoTxFull = 5 ∧
  FieldPositions.default.fifoTxEmpty = 4 ∧ FieldPositions.default.fifoRxFull = 1 ∧
  FieldPositions.default.fifoRxEmpty = 0 ∧ FieldPositions.default.channel = 0

/-- SET_FREQUENCY (R309): outside 2400..2527 it is refused before any transaction; else RF_CH is written with
`mhz - 2400`, in the channel's place, and the configuration stays. -/
def Obligations.SetFrequencyWritesChannel : Prop :=
  (∀ (s : State) (mhz : Nat) (ops : List HostOp),
    (s.resting → s.channelCall = none → s.requests = .setFrequency mhz :: ops → s.initialized = true →
      ((mhz < 2400 ∨ mhz > 2527) →
        step s = .next { s with requests := ops, results := .error .frequencyRange :: s.results }) ∧
      (2400 ≤ mhz → mhz ≤ 2527 →
        step s = .next { s with requests := ops, phase := .busy (.setFrequency mhz) })) ∧
    (s.phase = .busy (.setFrequency mhz) → s.csn = true → s.exchangesSucceed 2 →
      step s = .next { s.completedWrite s.params.reg.rfCh [channelOf s.params.bits mhz] with
        phase := .idle, results := .done :: s.results })) ∧
  ∀ mhz, 2400 ≤ mhz → mhz ≤ 2527 → (channelOf .default mhz).toNat = mhz - 2400

/-- WRITE_ACK_PAYLOAD, the host operation (R304): a payload of length 0 or above 32 is refused before any
transaction; else FLUSH_TX, then the acknowledgment payload tagged for pipe 0. -/
def Obligations.AckPayloadPreloaded : Prop :=
  ∀ (s : State) (p : List Byte) (ops : List HostOp),
    (s.resting → s.channelCall = none → s.requests = .writeAckPayload p :: ops → s.initialized = true →
      ((p.length = 0 ∨ p.length > 32) →
        step s = .next { s with requests := ops, results := .error .payloadLength :: s.results }) ∧
      (1 ≤ p.length → p.length ≤ 32 →
        step s = .next { s with requests := ops, phase := .busy (.ackFlush p) })) ∧
    (s.csn = true → s.exchangesSucceed 2 →
      (s.phase = .busy (.ackFlush p) →
        step s = .next { s.completed s.params.cmd.flushTx [] false with phase := .busy (.ackPreload p) }) ∧
      (s.phase = .busy (.ackPreload p) →
        step s = .next { s.completed (s.params.cmd.writeAckPayload.setWidth 8 <<< 3) p false with
          phase := .idle, results := .done :: s.results }))

/-- RECEIVE and the queries start at their status or register read (R301, R305..R308, R310). -/
def Obligations.ReadingOperationsStart : Prop :=
  ∀ (s : State) (ops : List HostOp), s.resting → s.channelCall = none → s.initialized = true →
    (s.requests = .receive :: ops →
      step s = .next { s with requests := ops, phase := .busy (.receive .status) }) ∧
    (s.requests = .getStatus :: ops →
      step s = .next { s with requests := ops, phase := .busy (.query .status) }) ∧
    (s.requests = .getObserveTx :: ops →
      step s = .next { s with requests := ops, phase := .busy (.query .observeTx) }) ∧
    (s.requests = .getRpd :: ops →
      step s = .next { s with requests := ops, phase := .busy (.query .rpd) }) ∧
    (s.requests = .getFifoStatus :: ops →
      step s = .next { s with requests := ops, phase := .busy (.query .fifoStatus) }) ∧
    (s.requests = .getFrequency :: ops →
      step s = .next { s with requests := ops, phase := .busy (.query .frequency) })

/-- GET_LINK_STATS (R311) returns the statistics in a resting phase, initialized or not, and changes nothing
else. -/
def Obligations.LinkStatsReturned : Prop :=
  ∀ (s : State) (ops : List HostOp), s.resting → s.channelCall = none → s.requests = .getLinkStats :: ops →
    step s = .next { s with requests := ops, results := .linkStats s.stats :: s.results }

/-! ## Errors (60_exceptions) -/

/-- NOT_INITIALIZED comes first (R371): before a successful initialize every operation but INITIALIZE and
GET_LINK_STATS is refused with it, whatever its operands, and nothing else changes (R372). The code an operation ends
with is R370's: 1 to 5 for the errors in its table's order, 0 for every result; the faults' are 6 and 7. -/
def Obligations.NotInitializedComesFirst : Prop :=
  (∀ (s : State) (op : HostOp) (ops : List HostOp), s.resting → s.channelCall = none →
    s.requests = op :: ops → s.initialized = false → (∀ c, op ≠ .init c) → op ≠ .getLinkStats →
    step s = .next { s with requests := ops, results := .error .notInitialized :: s.results }) ∧
  ([.configInvalid, .notInitialized, .payloadLength, .frequencyRange, .ioError] : List OpError).map
    OpError.code = [1, 2, 3, 4, 5] ∧
  (∀ w, (FaultCode.widthOutOfRange w).code = 6) ∧ FaultCode.nestedTransaction.code = 7 ∧
  (∀ e, (HostResult.error e).code = e.code) ∧
  ∀ r : HostResult, (∀ e, r ≠ .error e) → r.code = 0

/-- An exchange that fails in a running operation ends it (R372): CSN is 1, CE and every register but the status
latch keep their values, IO_ERROR is returned, and the phase is UNINIT, not initialized, after INITIALIZE, else
IDLE. -/
def Obligations.IoErrorEndsOperation : Prop :=
  ∀ (s : State) (b : Busy) (i : Instr), s.phase = .busy b → busyMicro b s = .command i s → s.csn = true →
    (s.env.failAt 0 = true ∨ (dataBlock s.params i ≠ [] ∧ s.env.failAt 1 = true)) →
    ∃ t, step s = .next t ∧ s.ioErrorEnd t ∧ s.sameRegisters t

/-! ## Invariants every step keeps -/

/-- The phase, the initialized flag and the configuration stay in agreement (10_state R25, R29, R30), and in such
a state a running operation has a latched configuration, so that no step of it reads the free one that stands where none
is latched (notes/assumptions/9.md). -/
def Obligations.CoherenceKept : Prop :=
  ∀ s : State, s.Coherent →
    (∀ b, s.phase = .busy b → ∃ c, s.cfg = some c ∧ s.config = c ∧ configAdmitted c = true) ∧
      ∀ t, step s = .next t → t.Coherent

/-- The acknowledgment buffer keeps its 32 bytes and its length stays within it (10_state R33). -/
def Obligations.BufferKept : Prop :=
  ∀ s t : State, s.BufferFits → step s = .next t → t.BufferFits

/-- Outside a transaction CSN is 1 once INITIALIZE has driven it, after a failed INITIALIZE too (42_configuration R213):
it is free only before the first INITIALIZE latches a configuration, where a transaction asked of the channel directly
may meet it low, and until that INITIALIZE drives it. So no step of a host operation ends in NESTED_TRANSACTION
(41_channel R183, R191; 60_exceptions R386). -/
def Obligations.ChipSelectIdleKept : Prop :=
  ∀ s t : State, s.Coherent → s.CsnIdle → step s = .next t →
    t.CsnIdle ∧ (s.channelCall = none → s.phase ≠ .faulted .nestedTransaction →
      t.phase ≠ .faulted .nestedTransaction)

/-- CE is 1 only where 41_channel R191 allows it: in PULSE, in receiver mode between INITIALIZE's end and a
transmit's pulse, or before INITIALIZE has lowered it, which at rest in UNINIT means that none has latched a
configuration (after a failed INITIALIZE CE is 0: 42_configuration R213). A fault keeps the level (60_exceptions R373): CE is 1 in
FAULTED(WIDTH_OUT_OF_RANGE) only in receiver mode. -/
def Obligations.ChipEnableGateKept : Prop :=
  ∀ s t : State, s.Coherent → s.CeGated → step s = .next t → t.CeGated

/-- POLL and ACCOUNT run only in a transmit that requested acknowledgment (43_transmit R255, R263; 45_link_quality
R348). -/
def Obligations.AckPathKept : Prop :=
  ∀ s t : State, s.AckPath → step s = .next t → t.AckPath

/-- Under one configuration the window's counter stays below the window and a multiple of the charge, and the
quality stays a percentage (10_state R32, 45_link_quality R345, R346). -/
def Obligations.StatisticsBounded : Prop :=
  ∀ s t : State, step s = .next t →
    (∀ c, s.cfg = some c → s.WindowOpen c → t.WindowOpen c) ∧
    (s.stats.quality ≤ 100 → t.stats.quality ≤ 100)

/-- Who writes what: the statistics only ACCOUNT's commit (10_state R32), the configuration only an accepted
INITIALIZE (R30), the status latch only a transaction (R28); the parameters nothing; the clock never goes back
(R23). -/
def Obligations.RegisterWriters : Prop :=
  ∀ s t : State, step s = .next t →
    (t.stats ≠ s.stats → ∃ r, s.phase = .busy (.transmit (.commit r))) ∧
    (t.cfg ≠ s.cfg → s.resting ∧ ∃ c ops, s.requests = .init c :: ops ∧ t.cfg = some c) ∧
    (t.lastStatus ≠ s.lastStatus → ∃ i s', nextMicro s = .command i s') ∧
    t.params = s.params ∧ s.env.now ≤ t.env.now

/-- Power-on, at any pin levels and parameters, meets every invariant. -/
def Obligations.PowerOnMeetsInvariants : Prop :=
  ∀ (csn ce : Bool) (p : Params),
    (State.powerOn csn ce p).Coherent ∧ (State.powerOn csn ce p).BufferFits ∧
    (State.powerOn csn ce p).CsnIdle ∧ (State.powerOn csn ce p).CeGated ∧
    (State.powerOn csn ce p).AckPath ∧ (State.powerOn csn ce p).stats.quality ≤ 100 ∧
    ∀ c, (State.powerOn csn ce p).WindowOpen c
end

