-- ==== Sys2Proof/Laws/State.lean ====
section
/-! SUPPORT. What each register update does to each field of the state: one lemma per field per update, true by
rfl, so that no proof unfolds a record update. -/

namespace Sys2Proof.Machine

@[simp] theorem State.setPhase_phase (s : State) (p : Phase) : (s.setPhase p).phase = p := rfl
@[simp] theorem State.setPhase_csn (s : State) (p : Phase) : (s.setPhase p).csn = s.csn := rfl
@[simp] theorem State.setPhase_ce (s : State) (p : Phase) : (s.setPhase p).ce = s.ce := rfl
@[simp] theorem State.setPhase_lastStatus (s : State) (p : Phase) : (s.setPhase p).lastStatus = s.lastStatus := rfl
@[simp] theorem State.setPhase_initialized (s : State) (p : Phase) : (s.setPhase p).initialized = s.initialized := rfl
@[simp] theorem State.setPhase_cfg (s : State) (p : Phase) : (s.setPhase p).cfg = s.cfg := rfl
@[simp] theorem State.setPhase_stats (s : State) (p : Phase) : (s.setPhase p).stats = s.stats := rfl
@[simp] theorem State.setPhase_ackBuf (s : State) (p : Phase) : (s.setPhase p).ackBuf = s.ackBuf := rfl
@[simp] theorem State.setPhase_ackLen (s : State) (p : Phase) : (s.setPhase p).ackLen = s.ackLen := rfl
@[simp] theorem State.setPhase_txPayload (s : State) (p : Phase) : (s.setPhase p).txPayload = s.txPayload := rfl
@[simp] theorem State.setPhase_txAck (s : State) (p : Phase) : (s.setPhase p).txAck = s.txAck := rfl
@[simp] theorem State.setPhase_txTimeout (s : State) (p : Phase) : (s.setPhase p).txTimeout = s.txTimeout := rfl
@[simp] theorem State.setPhase_tPulse (s : State) (p : Phase) : (s.setPhase p).tPulse = s.tPulse := rfl
@[simp] theorem State.setPhase_t0 (s : State) (p : Phase) : (s.setPhase p).t0 = s.t0 := rfl
@[simp] theorem State.setPhase_tWait (s : State) (p : Phase) : (s.setPhase p).tWait = s.tWait := rfl
@[simp] theorem State.setPhase_pollStatus (s : State) (p : Phase) : (s.setPhase p).pollStatus = s.pollStatus := rfl
@[simp] theorem State.setPhase_finalStatus (s : State) (p : Phase) : (s.setPhase p).finalStatus = s.finalStatus := rfl
@[simp] theorem State.setPhase_stOrig (s : State) (p : Phase) : (s.setPhase p).stOrig = s.stOrig := rfl
@[simp] theorem State.setPhase_stRead (s : State) (p : Phase) : (s.setPhase p).stRead = s.stRead := rfl
@[simp] theorem State.setPhase_params (s : State) (p : Phase) : (s.setPhase p).params = s.params := rfl
@[simp] theorem State.setPhase_env (s : State) (p : Phase) : (s.setPhase p).env = s.env := rfl
@[simp] theorem State.setPhase_rxData (s : State) (p : Phase) : (s.setPhase p).rxData = s.rxData := rfl
@[simp] theorem State.setPhase_channelCall (s : State) (p : Phase) : (s.setPhase p).channelCall = s.channelCall := rfl
@[simp] theorem State.setPhase_requests (s : State) (p : Phase) : (s.setPhase p).requests = s.requests := rfl
@[simp] theorem State.setPhase_results (s : State) (p : Phase) : (s.setPhase p).results = s.results := rfl
@[simp] theorem State.setPhase_trace (s : State) (p : Phase) : (s.setPhase p).trace = s.trace := rfl

@[simp] theorem State.setCsn_phase (s : State) (v : Bool) : (s.setCsn v).phase = s.phase := rfl
@[simp] theorem State.setCsn_csn (s : State) (v : Bool) : (s.setCsn v).csn = v := rfl
@[simp] theorem State.setCsn_ce (s : State) (v : Bool) : (s.setCsn v).ce = s.ce := rfl
@[simp] theorem State.setCsn_lastStatus (s : State) (v : Bool) : (s.setCsn v).lastStatus = s.lastStatus := rfl
@[simp] theorem State.setCsn_initialized (s : State) (v : Bool) : (s.setCsn v).initialized = s.initialized := rfl
@[simp] theorem State.setCsn_cfg (s : State) (v : Bool) : (s.setCsn v).cfg = s.cfg := rfl
@[simp] theorem State.setCsn_stats (s : State) (v : Bool) : (s.setCsn v).stats = s.stats := rfl
@[simp] theorem State.setCsn_ackBuf (s : State) (v : Bool) : (s.setCsn v).ackBuf = s.ackBuf := rfl
@[simp] theorem State.setCsn_ackLen (s : State) (v : Bool) : (s.setCsn v).ackLen = s.ackLen := rfl
@[simp] theorem State.setCsn_txPayload (s : State) (v : Bool) : (s.setCsn v).txPayload = s.txPayload := rfl
@[simp] theorem State.setCsn_txAck (s : State) (v : Bool) : (s.setCsn v).txAck = s.txAck := rfl
@[simp] theorem State.setCsn_txTimeout (s : State) (v : Bool) : (s.setCsn v).txTimeout = s.txTimeout := rfl
@[simp] theorem State.setCsn_tPulse (s : State) (v : Bool) : (s.setCsn v).tPulse = s.tPulse := rfl
@[simp] theorem State.setCsn_t0 (s : State) (v : Bool) : (s.setCsn v).t0 = s.t0 := rfl
@[simp] theorem State.setCsn_tWait (s : State) (v : Bool) : (s.setCsn v).tWait = s.tWait := rfl
@[simp] theorem State.setCsn_pollStatus (s : State) (v : Bool) : (s.setCsn v).pollStatus = s.pollStatus := rfl
@[simp] theorem State.setCsn_finalStatus (s : State) (v : Bool) : (s.setCsn v).finalStatus = s.finalStatus := rfl
@[simp] theorem State.setCsn_stOrig (s : State) (v : Bool) : (s.setCsn v).stOrig = s.stOrig := rfl
@[simp] theorem State.setCsn_stRead (s : State) (v : Bool) : (s.setCsn v).stRead = s.stRead := rfl
@[simp] theorem State.setCsn_params (s : State) (v : Bool) : (s.setCsn v).params = s.params := rfl
@[simp] theorem State.setCsn_env (s : State) (v : Bool) : (s.setCsn v).env = s.env := rfl
@[simp] theorem State.setCsn_rxData (s : State) (v : Bool) : (s.setCsn v).rxData = s.rxData := rfl
@[simp] theorem State.setCsn_channelCall (s : State) (v : Bool) : (s.setCsn v).channelCall = s.channelCall := rfl
@[simp] theorem State.setCsn_requests (s : State) (v : Bool) : (s.setCsn v).requests = s.requests := rfl
@[simp] theorem State.setCsn_results (s : State) (v : Bool) : (s.setCsn v).results = s.results := rfl
@[simp] theorem State.setCsn_trace (s : State) (v : Bool) : (s.setCsn v).trace = s.trace := rfl

@[simp] theorem State.setCe_phase (s : State) (v : Bool) : (s.setCe v).phase = s.phase := rfl
@[simp] theorem State.setCe_csn (s : State) (v : Bool) : (s.setCe v).csn = s.csn := rfl
@[simp] theorem State.setCe_ce (s : State) (v : Bool) : (s.setCe v).ce = v := rfl
@[simp] theorem State.setCe_lastStatus (s : State) (v : Bool) : (s.setCe v).lastStatus = s.lastStatus := rfl
@[simp] theorem State.setCe_initialized (s : State) (v : Bool) : (s.setCe v).initialized = s.initialized := rfl
@[simp] theorem State.setCe_cfg (s : State) (v : Bool) : (s.setCe v).cfg = s.cfg := rfl
@[simp] theorem State.setCe_stats (s : State) (v : Bool) : (s.setCe v).stats = s.stats := rfl
@[simp] theorem State.setCe_ackBuf (s : State) (v : Bool) : (s.setCe v).ackBuf = s.ackBuf := rfl
@[simp] theorem State.setCe_ackLen (s : State) (v : Bool) : (s.setCe v).ackLen = s.ackLen := rfl
@[simp] theorem State.setCe_txPayload (s : State) (v : Bool) : (s.setCe v).txPayload = s.txPayload := rfl
@[simp] theorem State.setCe_txAck (s : State) (v : Bool) : (s.setCe v).txAck = s.txAck := rfl
@[simp] theorem State.setCe_txTimeout (s : State) (v : Bool) : (s.setCe v).txTimeout = s.txTimeout := rfl
@[simp] theorem State.setCe_tPulse (s : State) (v : Bool) : (s.setCe v).tPulse = s.tPulse := rfl
@[simp] theorem State.setCe_t0 (s : State) (v : Bool) : (s.setCe v).t0 = s.t0 := rfl
@[simp] theorem State.setCe_tWait (s : State) (v : Bool) : (s.setCe v).tWait = s.tWait := rfl
@[simp] theorem State.setCe_pollStatus (s : State) (v : Bool) : (s.setCe v).pollStatus = s.pollStatus := rfl
@[simp] theorem State.setCe_finalStatus (s : State) (v : Bool) : (s.setCe v).finalStatus = s.finalStatus := rfl
@[simp] theorem State.setCe_stOrig (s : State) (v : Bool) : (s.setCe v).stOrig = s.stOrig := rfl
@[simp] theorem State.setCe_stRead (s : State) (v : Bool) : (s.setCe v).stRead = s.stRead := rfl
@[simp] theorem State.setCe_params (s : State) (v : Bool) : (s.setCe v).params = s.params := rfl
@[simp] theorem State.setCe_env (s : State) (v : Bool) : (s.setCe v).env = s.env := rfl
@[simp] theorem State.setCe_rxData (s : State) (v : Bool) : (s.setCe v).rxData = s.rxData := rfl
@[simp] theorem State.setCe_channelCall (s : State) (v : Bool) : (s.setCe v).channelCall = s.channelCall := rfl
@[simp] theorem State.setCe_requests (s : State) (v : Bool) : (s.setCe v).requests = s.requests := rfl
@[simp] theorem State.setCe_results (s : State) (v : Bool) : (s.setCe v).results = s.results := rfl
@[simp] theorem State.setCe_trace (s : State) (v : Bool) : (s.setCe v).trace = s.trace := rfl

@[simp] theorem State.setLastStatus_phase (s : State) (b : Byte) : (s.setLastStatus b).phase = s.phase := rfl
@[simp] theorem State.setLastStatus_csn (s : State) (b : Byte) : (s.setLastStatus b).csn = s.csn := rfl
@[simp] theorem State.setLastStatus_ce (s : State) (b : Byte) : (s.setLastStatus b).ce = s.ce := rfl
@[simp] theorem State.setLastStatus_lastStatus (s : State) (b : Byte) : (s.setLastStatus b).lastStatus = some b := rfl
@[simp] theorem State.setLastStatus_initialized (s : State) (b : Byte) : (s.setLastStatus b).initialized = s.initialized := rfl
@[simp] theorem State.setLastStatus_cfg (s : State) (b : Byte) : (s.setLastStatus b).cfg = s.cfg := rfl
@[simp] theorem State.setLastStatus_stats (s : State) (b : Byte) : (s.setLastStatus b).stats = s.stats := rfl
@[simp] theorem State.setLastStatus_ackBuf (s : State) (b : Byte) : (s.setLastStatus b).ackBuf = s.ackBuf := rfl
@[simp] theorem State.setLastStatus_ackLen (s : State) (b : Byte) : (s.setLastStatus b).ackLen = s.ackLen := rfl
@[simp] theorem State.setLastStatus_txPayload (s : State) (b : Byte) : (s.setLastStatus b).txPayload = s.txPayload := rfl
@[simp] theorem State.setLastStatus_txAck (s : State) (b : Byte) : (s.setLastStatus b).txAck = s.txAck := rfl
@[simp] theorem State.setLastStatus_txTimeout (s : State) (b : Byte) : (s.setLastStatus b).txTimeout = s.txTimeout := rfl
@[simp] theorem State.setLastStatus_tPulse (s : State) (b : Byte) : (s.setLastStatus b).tPulse = s.tPulse := rfl
@[simp] theorem State.setLastStatus_t0 (s : State) (b : Byte) : (s.setLastStatus b).t0 = s.t0 := rfl
@[simp] theorem State.setLastStatus_tWait (s : State) (b : Byte) : (s.setLastStatus b).tWait = s.tWait := rfl
@[simp] theorem State.setLastStatus_pollStatus (s : State) (b : Byte) : (s.setLastStatus b).pollStatus = s.pollStatus := rfl
@[simp] theorem State.setLastStatus_finalStatus (s : State) (b : Byte) : (s.setLastStatus b).finalStatus = s.finalStatus := rfl
@[simp] theorem State.setLastStatus_stOrig (s : State) (b : Byte) : (s.setLastStatus b).stOrig = s.stOrig := rfl
@[simp] theorem State.setLastStatus_stRead (s : State) (b : Byte) : (s.setLastStatus b).stRead = s.stRead := rfl
@[simp] theorem State.setLastStatus_params (s : State) (b : Byte) : (s.setLastStatus b).params = s.params := rfl
@[simp] theorem State.setLastStatus_env (s : State) (b : Byte) : (s.setLastStatus b).env = s.env := rfl
@[simp] theorem State.setLastStatus_rxData (s : State) (b : Byte) : (s.setLastStatus b).rxData = s.rxData := rfl
@[simp] theorem State.setLastStatus_channelCall (s : State) (b : Byte) : (s.setLastStatus b).channelCall = s.channelCall := rfl
@[simp] theorem State.setLastStatus_requests (s : State) (b : Byte) : (s.setLastStatus b).requests = s.requests := rfl
@[simp] theorem State.setLastStatus_results (s : State) (b : Byte) : (s.setLastStatus b).results = s.results := rfl
@[simp] theorem State.setLastStatus_trace (s : State) (b : Byte) : (s.setLastStatus b).trace = s.trace := rfl

@[simp] theorem State.setInitialized_phase (s : State) (v : Bool) : (s.setInitialized v).phase = s.phase := rfl
@[simp] theorem State.setInitialized_csn (s : State) (v : Bool) : (s.setInitialized v).csn = s.csn := rfl
@[simp] theorem State.setInitialized_ce (s : State) (v : Bool) : (s.setInitialized v).ce = s.ce := rfl
@[simp] theorem State.setInitialized_lastStatus (s : State) (v : Bool) : (s.setInitialized v).lastStatus = s.lastStatus := rfl
@[simp] theorem State.setInitialized_initialized (s : State) (v : Bool) : (s.setInitialized v).initialized = v := rfl
@[simp] theorem State.setInitialized_cfg (s : State) (v : Bool) : (s.setInitialized v).cfg = s.cfg := rfl
@[simp] theorem State.setInitialized_stats (s : State) (v : Bool) : (s.setInitialized v).stats = s.stats := rfl
@[simp] theorem State.setInitialized_ackBuf (s : State) (v : Bool) : (s.setInitialized v).ackBuf = s.ackBuf := rfl
@[simp] theorem State.setInitialized_ackLen (s : State) (v : Bool) : (s.setInitialized v).ackLen = s.ackLen := rfl
@[simp] theorem State.setInitialized_txPayload (s : State) (v : Bool) : (s.setInitialized v).txPayload = s.txPayload := rfl
@[simp] theorem State.setInitialized_txAck (s : State) (v : Bool) : (s.setInitialized v).txAck = s.txAck := rfl
@[simp] theorem State.setInitialized_txTimeout (s : State) (v : Bool) : (s.setInitialized v).txTimeout = s.txTimeout := rfl
@[simp] theorem State.setInitialized_tPulse (s : State) (v : Bool) : (s.setInitialized v).tPulse = s.tPulse := rfl
@[simp] theorem State.setInitialized_t0 (s : State) (v : Bool) : (s.setInitialized v).t0 = s.t0 := rfl
@[simp] theorem State.setInitialized_tWait (s : State) (v : Bool) : (s.setInitialized v).tWait = s.tWait := rfl
@[simp] theorem State.setInitialized_pollStatus (s : State) (v : Bool) : (s.setInitialized v).pollStatus = s.pollStatus := rfl
@[simp] theorem State.setInitialized_finalStatus (s : State) (v : Bool) : (s.setInitialized v).finalStatus = s.finalStatus := rfl
@[simp] theorem State.setInitialized_stOrig (s : State) (v : Bool) : (s.setInitialized v).stOrig = s.stOrig := rfl
@[simp] theorem State.setInitialized_stRead (s : State) (v : Bool) : (s.setInitialized v).stRead = s.stRead := rfl
@[simp] theorem State.setInitialized_params (s : State) (v : Bool) : (s.setInitialized v).params = s.params := rfl
@[simp] theorem State.setInitialized_env (s : State) (v : Bool) : (s.setInitialized v).env = s.env := rfl
@[simp] theorem State.setInitialized_rxData (s : State) (v : Bool) : (s.setInitialized v).rxData = s.rxData := rfl
@[simp] theorem State.setInitialized_channelCall (s : State) (v : Bool) : (s.setInitialized v).channelCall = s.channelCall := rfl
@[simp] theorem State.setInitialized_requests (s : State) (v : Bool) : (s.setInitialized v).requests = s.requests := rfl
@[simp] theorem State.setInitialized_results (s : State) (v : Bool) : (s.setInitialized v).results = s.results := rfl
@[simp] theorem State.setInitialized_trace (s : State) (v : Bool) : (s.setInitialized v).trace = s.trace := rfl

@[simp] theorem State.setCfg_phase (s : State) (c : RadioConfiguration) : (s.setCfg c).phase = s.phase := rfl
@[simp] theorem State.setCfg_csn (s : State) (c : RadioConfiguration) : (s.setCfg c).csn = s.csn := rfl
@[simp] theorem State.setCfg_ce (s : State) (c : RadioConfiguration) : (s.setCfg c).ce = s.ce := rfl
@[simp] theorem State.setCfg_lastStatus (s : State) (c : RadioConfiguration) : (s.setCfg c).lastStatus = s.lastStatus := rfl
@[simp] theorem State.setCfg_initialized (s : State) (c : RadioConfiguration) : (s.setCfg c).initialized = s.initialized := rfl
@[simp] theorem State.setCfg_cfg (s : State) (c : RadioConfiguration) : (s.setCfg c).cfg = some c := rfl
@[simp] theorem State.setCfg_stats (s : State) (c : RadioConfiguration) : (s.setCfg c).stats = s.stats := rfl
@[simp] theorem State.setCfg_ackBuf (s : State) (c : RadioConfiguration) : (s.setCfg c).ackBuf = s.ackBuf := rfl
@[simp] theorem State.setCfg_ackLen (s : State) (c : RadioConfiguration) : (s.setCfg c).ackLen = s.ackLen := rfl
@[simp] theorem State.setCfg_txPayload (s : State) (c : RadioConfiguration) : (s.setCfg c).txPayload = s.txPayload := rfl
@[simp] theorem State.setCfg_txAck (s : State) (c : RadioConfiguration) : (s.setCfg c).txAck = s.txAck := rfl
@[simp] theorem State.setCfg_txTimeout (s : State) (c : RadioConfiguration) : (s.setCfg c).txTimeout = s.txTimeout := rfl
@[simp] theorem State.setCfg_tPulse (s : State) (c : RadioConfiguration) : (s.setCfg c).tPulse = s.tPulse := rfl
@[simp] theorem State.setCfg_t0 (s : State) (c : RadioConfiguration) : (s.setCfg c).t0 = s.t0 := rfl
@[simp] theorem State.setCfg_tWait (s : State) (c : RadioConfiguration) : (s.setCfg c).tWait = s.tWait := rfl
@[simp] theorem State.setCfg_pollStatus (s : State) (c : RadioConfiguration) : (s.setCfg c).pollStatus = s.pollStatus := rfl
@[simp] theorem State.setCfg_finalStatus (s : State) (c : RadioConfiguration) : (s.setCfg c).finalStatus = s.finalStatus := rfl
@[simp] theorem State.setCfg_stOrig (s : State) (c : RadioConfiguration) : (s.setCfg c).stOrig = s.stOrig := rfl
@[simp] theorem State.setCfg_stRead (s : State) (c : RadioConfiguration) : (s.setCfg c).stRead = s.stRead := rfl
@[simp] theorem State.setCfg_params (s : State) (c : RadioConfiguration) : (s.setCfg c).params = s.params := rfl
@[simp] theorem State.setCfg_env (s : State) (c : RadioConfiguration) : (s.setCfg c).env = s.env := rfl
@[simp] theorem State.setCfg_rxData (s : State) (c : RadioConfiguration) : (s.setCfg c).rxData = s.rxData := rfl
@[simp] theorem State.setCfg_channelCall (s : State) (c : RadioConfiguration) : (s.setCfg c).channelCall = s.channelCall := rfl
@[simp] theorem State.setCfg_requests (s : State) (c : RadioConfiguration) : (s.setCfg c).requests = s.requests := rfl
@[simp] theorem State.setCfg_results (s : State) (c : RadioConfiguration) : (s.setCfg c).results = s.results := rfl
@[simp] theorem State.setCfg_trace (s : State) (c : RadioConfiguration) : (s.setCfg c).trace = s.trace := rfl

@[simp] theorem State.setStats_phase (s : State) (l : LinkStats) : (s.setStats l).phase = s.phase := rfl
@[simp] theorem State.setStats_csn (s : State) (l : LinkStats) : (s.setStats l).csn = s.csn := rfl
@[simp] theorem State.setStats_ce (s : State) (l : LinkStats) : (s.setStats l).ce = s.ce := rfl
@[simp] theorem State.setStats_lastStatus (s : State) (l : LinkStats) : (s.setStats l).lastStatus = s.lastStatus := rfl
@[simp] theorem State.setStats_initialized (s : State) (l : LinkStats) : (s.setStats l).initialized = s.initialized := rfl
@[simp] theorem State.setStats_cfg (s : State) (l : LinkStats) : (s.setStats l).cfg = s.cfg := rfl
@[simp] theorem State.setStats_stats (s : State) (l : LinkStats) : (s.setStats l).stats = l := rfl
@[simp] theorem State.setStats_ackBuf (s : State) (l : LinkStats) : (s.setStats l).ackBuf = s.ackBuf := rfl
@[simp] theorem State.setStats_ackLen (s : State) (l : LinkStats) : (s.setStats l).ackLen = s.ackLen := rfl
@[simp] theorem State.setStats_txPayload (s : State) (l : LinkStats) : (s.setStats l).txPayload = s.txPayload := rfl
@[simp] theorem State.setStats_txAck (s : State) (l : LinkStats) : (s.setStats l).txAck = s.txAck := rfl
@[simp] theorem State.setStats_txTimeout (s : State) (l : LinkStats) : (s.setStats l).txTimeout = s.txTimeout := rfl
@[simp] theorem State.setStats_tPulse (s : State) (l : LinkStats) : (s.setStats l).tPulse = s.tPulse := rfl
@[simp] theorem State.setStats_t0 (s : State) (l : LinkStats) : (s.setStats l).t0 = s.t0 := rfl
@[simp] theorem State.setStats_tWait (s : State) (l : LinkStats) : (s.setStats l).tWait = s.tWait := rfl
@[simp] theorem State.setStats_pollStatus (s : State) (l : LinkStats) : (s.setStats l).pollStatus = s.pollStatus := rfl
@[simp] theorem State.setStats_finalStatus (s : State) (l : LinkStats) : (s.setStats l).finalStatus = s.finalStatus := rfl
@[simp] theorem State.setStats_stOrig (s : State) (l : LinkStats) : (s.setStats l).stOrig = s.stOrig := rfl
@[simp] theorem State.setStats_stRead (s : State) (l : LinkStats) : (s.setStats l).stRead = s.stRead := rfl
@[simp] theorem State.setStats_params (s : State) (l : LinkStats) : (s.setStats l).params = s.params := rfl
@[simp] theorem State.setStats_env (s : State) (l : LinkStats) : (s.setStats l).env = s.env := rfl
@[simp] theorem State.setStats_rxData (s : State) (l : LinkStats) : (s.setStats l).rxData = s.rxData := rfl
@[simp] theorem State.setStats_channelCall (s : State) (l : LinkStats) : (s.setStats l).channelCall = s.channelCall := rfl
@[simp] theorem State.setStats_requests (s : State) (l : LinkStats) : (s.setStats l).requests = s.requests := rfl
@[simp] theorem State.setStats_results (s : State) (l : LinkStats) : (s.setStats l).results = s.results := rfl
@[simp] theorem State.setStats_trace (s : State) (l : LinkStats) : (s.setStats l).trace = s.trace := rfl

@[simp] theorem State.setAckBuf_phase (s : State) (d : List Byte) : (s.setAckBuf d).phase = s.phase := rfl
@[simp] theorem State.setAckBuf_csn (s : State) (d : List Byte) : (s.setAckBuf d).csn = s.csn := rfl
@[simp] theorem State.setAckBuf_ce (s : State) (d : List Byte) : (s.setAckBuf d).ce = s.ce := rfl
@[simp] theorem State.setAckBuf_lastStatus (s : State) (d : List Byte) : (s.setAckBuf d).lastStatus = s.lastStatus := rfl
@[simp] theorem State.setAckBuf_initialized (s : State) (d : List Byte) : (s.setAckBuf d).initialized = s.initialized := rfl
@[simp] theorem State.setAckBuf_cfg (s : State) (d : List Byte) : (s.setAckBuf d).cfg = s.cfg := rfl
@[simp] theorem State.setAckBuf_stats (s : State) (d : List Byte) : (s.setAckBuf d).stats = s.stats := rfl
@[simp] theorem State.setAckBuf_ackBuf (s : State) (d : List Byte) : (s.setAckBuf d).ackBuf = d := rfl
@[simp] theorem State.setAckBuf_ackLen (s : State) (d : List Byte) : (s.setAckBuf d).ackLen = s.ackLen := rfl
@[simp] theorem State.setAckBuf_txPayload (s : State) (d : List Byte) : (s.setAckBuf d).txPayload = s.txPayload := rfl
@[simp] theorem State.setAckBuf_txAck (s : State) (d : List Byte) : (s.setAckBuf d).txAck = s.txAck := rfl
@[simp] theorem State.setAckBuf_txTimeout (s : State) (d : List Byte) : (s.setAckBuf d).txTimeout = s.txTimeout := rfl
@[simp] theorem State.setAckBuf_tPulse (s : State) (d : List Byte) : (s.setAckBuf d).tPulse = s.tPulse := rfl
@[simp] theorem State.setAckBuf_t0 (s : State) (d : List Byte) : (s.setAckBuf d).t0 = s.t0 := rfl
@[simp] theorem State.setAckBuf_tWait (s : State) (d : List Byte) : (s.setAckBuf d).tWait = s.tWait := rfl
@[simp] theorem State.setAckBuf_pollStatus (s : State) (d : List Byte) : (s.setAckBuf d).pollStatus = s.pollStatus := rfl
@[simp] theorem State.setAckBuf_finalStatus (s : State) (d : List Byte) : (s.setAckBuf d).finalStatus = s.finalStatus := rfl
@[simp] theorem State.setAckBuf_stOrig (s : State) (d : List Byte) : (s.setAckBuf d).stOrig = s.stOrig := rfl
@[simp] theorem State.setAckBuf_stRead (s : State) (d : List Byte) : (s.setAckBuf d).stRead = s.stRead := rfl
@[simp] theorem State.setAckBuf_params (s : State) (d : List Byte) : (s.setAckBuf d).params = s.params := rfl
@[simp] theorem State.setAckBuf_env (s : State) (d : List Byte) : (s.setAckBuf d).env = s.env := rfl
@[simp] theorem State.setAckBuf_rxData (s : State) (d : List Byte) : (s.setAckBuf d).rxData = s.rxData := rfl
@[simp] theorem State.setAckBuf_channelCall (s : State) (d : List Byte) : (s.setAckBuf d).channelCall = s.channelCall := rfl
@[simp] theorem State.setAckBuf_requests (s : State) (d : List Byte) : (s.setAckBuf d).requests = s.requests := rfl
@[simp] theorem State.setAckBuf_results (s : State) (d : List Byte) : (s.setAckBuf d).results = s.results := rfl
@[simp] theorem State.setAckBuf_trace (s : State) (d : List Byte) : (s.setAckBuf d).trace = s.trace := rfl

@[simp] theorem State.setAckLen_phase (s : State) (n : Nat) : (s.setAckLen n).phase = s.phase := rfl
@[simp] theorem State.setAckLen_csn (s : State) (n : Nat) : (s.setAckLen n).csn = s.csn := rfl
@[simp] theorem State.setAckLen_ce (s : State) (n : Nat) : (s.setAckLen n).ce = s.ce := rfl
@[simp] theorem State.setAckLen_lastStatus (s : State) (n : Nat) : (s.setAckLen n).lastStatus = s.lastStatus := rfl
@[simp] theorem State.setAckLen_initialized (s : State) (n : Nat) : (s.setAckLen n).initialized = s.initialized := rfl
@[simp] theorem State.setAckLen_cfg (s : State) (n : Nat) : (s.setAckLen n).cfg = s.cfg := rfl
@[simp] theorem State.setAckLen_stats (s : State) (n : Nat) : (s.setAckLen n).stats = s.stats := rfl
@[simp] theorem State.setAckLen_ackBuf (s : State) (n : Nat) : (s.setAckLen n).ackBuf = s.ackBuf := rfl
@[simp] theorem State.setAckLen_ackLen (s : State) (n : Nat) : (s.setAckLen n).ackLen = n := rfl
@[simp] theorem State.setAckLen_txPayload (s : State) (n : Nat) : (s.setAckLen n).txPayload = s.txPayload := rfl
@[simp] theorem State.setAckLen_txAck (s : State) (n : Nat) : (s.setAckLen n).txAck = s.txAck := rfl
@[simp] theorem State.setAckLen_txTimeout (s : State) (n : Nat) : (s.setAckLen n).txTimeout = s.txTimeout := rfl
@[simp] theorem State.setAckLen_tPulse (s : State) (n : Nat) : (s.setAckLen n).tPulse = s.tPulse := rfl
@[simp] theorem State.setAckLen_t0 (s : State) (n : Nat) : (s.setAckLen n).t0 = s.t0 := rfl
@[simp] theorem State.setAckLen_tWait (s : State) (n : Nat) : (s.setAckLen n).tWait = s.tWait := rfl
@[simp] theorem State.setAckLen_pollStatus (s : State) (n : Nat) : (s.setAckLen n).pollStatus = s.pollStatus := rfl
@[simp] theorem State.setAckLen_finalStatus (s : State) (n : Nat) : (s.setAckLen n).finalStatus = s.finalStatus := rfl
@[simp] theorem State.setAckLen_stOrig (s : State) (n : Nat) : (s.setAckLen n).stOrig = s.stOrig := rfl
@[simp] theorem State.setAckLen_stRead (s : State) (n : Nat) : (s.setAckLen n).stRead = s.stRead := rfl
@[simp] theorem State.setAckLen_params (s : State) (n : Nat) : (s.setAckLen n).params = s.params := rfl
@[simp] theorem State.setAckLen_env (s : State) (n : Nat) : (s.setAckLen n).env = s.env := rfl
@[simp] theorem State.setAckLen_rxData (s : State) (n : Nat) : (s.setAckLen n).rxData = s.rxData := rfl
@[simp] theorem State.setAckLen_channelCall (s : State) (n : Nat) : (s.setAckLen n).channelCall = s.channelCall := rfl
@[simp] theorem State.setAckLen_requests (s : State) (n : Nat) : (s.setAckLen n).requests = s.requests := rfl
@[simp] theorem State.setAckLen_results (s : State) (n : Nat) : (s.setAckLen n).results = s.results := rfl
@[simp] theorem State.setAckLen_trace (s : State) (n : Nat) : (s.setAckLen n).trace = s.trace := rfl

@[simp] theorem State.setTxPayload_phase (s : State) (d : List Byte) : (s.setTxPayload d).phase = s.phase := rfl
@[simp] theorem State.setTxPayload_csn (s : State) (d : List Byte) : (s.setTxPayload d).csn = s.csn := rfl
@[simp] theorem State.setTxPayload_ce (s : State) (d : List Byte) : (s.setTxPayload d).ce = s.ce := rfl
@[simp] theorem State.setTxPayload_lastStatus (s : State) (d : List Byte) : (s.setTxPayload d).lastStatus = s.lastStatus := rfl
@[simp] theorem State.setTxPayload_initialized (s : State) (d : List Byte) : (s.setTxPayload d).initialized = s.initialized := rfl
@[simp] theorem State.setTxPayload_cfg (s : State) (d : List Byte) : (s.setTxPayload d).cfg = s.cfg := rfl
@[simp] theorem State.setTxPayload_stats (s : State) (d : List Byte) : (s.setTxPayload d).stats = s.stats := rfl
@[simp] theorem State.setTxPayload_ackBuf (s : State) (d : List Byte) : (s.setTxPayload d).ackBuf = s.ackBuf := rfl
@[simp] theorem State.setTxPayload_ackLen (s : State) (d : List Byte) : (s.setTxPayload d).ackLen = s.ackLen := rfl
@[simp] theorem State.setTxPayload_txPayload (s : State) (d : List Byte) : (s.setTxPayload d).txPayload = d := rfl
@[simp] theorem State.setTxPayload_txAck (s : State) (d : List Byte) : (s.setTxPayload d).txAck = s.txAck := rfl
@[simp] theorem State.setTxPayload_txTimeout (s : State) (d : List Byte) : (s.setTxPayload d).txTimeout = s.txTimeout := rfl
@[simp] theorem State.setTxPayload_tPulse (s : State) (d : List Byte) : (s.setTxPayload d).tPulse = s.tPulse := rfl
@[simp] theorem State.setTxPayload_t0 (s : State) (d : List Byte) : (s.setTxPayload d).t0 = s.t0 := rfl
@[simp] theorem State.setTxPayload_tWait (s : State) (d : List Byte) : (s.setTxPayload d).tWait = s.tWait := rfl
@[simp] theorem State.setTxPayload_pollStatus (s : State) (d : List Byte) : (s.setTxPayload d).pollStatus = s.pollStatus := rfl
@[simp] theorem State.setTxPayload_finalStatus (s : State) (d : List Byte) : (s.setTxPayload d).finalStatus = s.finalStatus := rfl
@[simp] theorem State.setTxPayload_stOrig (s : State) (d : List Byte) : (s.setTxPayload d).stOrig = s.stOrig := rfl
@[simp] theorem State.setTxPayload_stRead (s : State) (d : List Byte) : (s.setTxPayload d).stRead = s.stRead := rfl
@[simp] theorem State.setTxPayload_params (s : State) (d : List Byte) : (s.setTxPayload d).params = s.params := rfl
@[simp] theorem State.setTxPayload_env (s : State) (d : List Byte) : (s.setTxPayload d).env = s.env := rfl
@[simp] theorem State.setTxPayload_rxData (s : State) (d : List Byte) : (s.setTxPayload d).rxData = s.rxData := rfl
@[simp] theorem State.setTxPayload_channelCall (s : State) (d : List Byte) : (s.setTxPayload d).channelCall = s.channelCall := rfl
@[simp] theorem State.setTxPayload_requests (s : State) (d : List Byte) : (s.setTxPayload d).requests = s.requests := rfl
@[simp] theorem State.setTxPayload_results (s : State) (d : List Byte) : (s.setTxPayload d).results = s.results := rfl
@[simp] theorem State.setTxPayload_trace (s : State) (d : List Byte) : (s.setTxPayload d).trace = s.trace := rfl

@[simp] theorem State.setTxAck_phase (s : State) (v : Bool) : (s.setTxAck v).phase = s.phase := rfl
@[simp] theorem State.setTxAck_csn (s : State) (v : Bool) : (s.setTxAck v).csn = s.csn := rfl
@[simp] theorem State.setTxAck_ce (s : State) (v : Bool) : (s.setTxAck v).ce = s.ce := rfl
@[simp] theorem State.setTxAck_lastStatus (s : State) (v : Bool) : (s.setTxAck v).lastStatus = s.lastStatus := rfl
@[simp] theorem State.setTxAck_initialized (s : State) (v : Bool) : (s.setTxAck v).initialized = s.initialized := rfl
@[simp] theorem State.setTxAck_cfg (s : State) (v : Bool) : (s.setTxAck v).cfg = s.cfg := rfl
@[simp] theorem State.setTxAck_stats (s : State) (v : Bool) : (s.setTxAck v).stats = s.stats := rfl
@[simp] theorem State.setTxAck_ackBuf (s : State) (v : Bool) : (s.setTxAck v).ackBuf = s.ackBuf := rfl
@[simp] theorem State.setTxAck_ackLen (s : State) (v : Bool) : (s.setTxAck v).ackLen = s.ackLen := rfl
@[simp] theorem State.setTxAck_txPayload (s : State) (v : Bool) : (s.setTxAck v).txPayload = s.txPayload := rfl
@[simp] theorem State.setTxAck_txAck (s : State) (v : Bool) : (s.setTxAck v).txAck = v := rfl
@[simp] theorem State.setTxAck_txTimeout (s : State) (v : Bool) : (s.setTxAck v).txTimeout = s.txTimeout := rfl
@[simp] theorem State.setTxAck_tPulse (s : State) (v : Bool) : (s.setTxAck v).tPulse = s.tPulse := rfl
@[simp] theorem State.setTxAck_t0 (s : State) (v : Bool) : (s.setTxAck v).t0 = s.t0 := rfl
@[simp] theorem State.setTxAck_tWait (s : State) (v : Bool) : (s.setTxAck v).tWait = s.tWait := rfl
@[simp] theorem State.setTxAck_pollStatus (s : State) (v : Bool) : (s.setTxAck v).pollStatus = s.pollStatus := rfl
@[simp] theorem State.setTxAck_finalStatus (s : State) (v : Bool) : (s.setTxAck v).finalStatus = s.finalStatus := rfl
@[simp] theorem State.setTxAck_stOrig (s : State) (v : Bool) : (s.setTxAck v).stOrig = s.stOrig := rfl
@[simp] theorem State.setTxAck_stRead (s : State) (v : Bool) : (s.setTxAck v).stRead = s.stRead := rfl
@[simp] theorem State.setTxAck_params (s : State) (v : Bool) : (s.setTxAck v).params = s.params := rfl
@[simp] theorem State.setTxAck_env (s : State) (v : Bool) : (s.setTxAck v).env = s.env := rfl
@[simp] theorem State.setTxAck_rxData (s : State) (v : Bool) : (s.setTxAck v).rxData = s.rxData := rfl
@[simp] theorem State.setTxAck_channelCall (s : State) (v : Bool) : (s.setTxAck v).channelCall = s.channelCall := rfl
@[simp] theorem State.setTxAck_requests (s : State) (v : Bool) : (s.setTxAck v).requests = s.requests := rfl
@[simp] theorem State.setTxAck_results (s : State) (v : Bool) : (s.setTxAck v).results = s.results := rfl
@[simp] theorem State.setTxAck_trace (s : State) (v : Bool) : (s.setTxAck v).trace = s.trace := rfl

@[simp] theorem State.setTxTimeout_phase (s : State) (n : Nat) : (s.setTxTimeout n).phase = s.phase := rfl
@[simp] theorem State.setTxTimeout_csn (s : State) (n : Nat) : (s.setTxTimeout n).csn = s.csn := rfl
@[simp] theorem State.setTxTimeout_ce (s : State) (n : Nat) : (s.setTxTimeout n).ce = s.ce := rfl
@[simp] theorem State.setTxTimeout_lastStatus (s : State) (n : Nat) : (s.setTxTimeout n).lastStatus = s.lastStatus := rfl
@[simp] theorem State.setTxTimeout_initialized (s : State) (n : Nat) : (s.setTxTimeout n).initialized = s.initialized := rfl
@[simp] theorem State.setTxTimeout_cfg (s : State) (n : Nat) : (s.setTxTimeout n).cfg = s.cfg := rfl
@[simp] theorem State.setTxTimeout_stats (s : State) (n : Nat) : (s.setTxTimeout n).stats = s.stats := rfl
@[simp] theorem State.setTxTimeout_ackBuf (s : State) (n : Nat) : (s.setTxTimeout n).ackBuf = s.ackBuf := rfl
@[simp] theorem State.setTxTimeout_ackLen (s : State) (n : Nat) : (s.setTxTimeout n).ackLen = s.ackLen := rfl
@[simp] theorem State.setTxTimeout_txPayload (s : State) (n : Nat) : (s.setTxTimeout n).txPayload = s.txPayload := rfl
@[simp] theorem State.setTxTimeout_txAck (s : State) (n : Nat) : (s.setTxTimeout n).txAck = s.txAck := rfl
@[simp] theorem State.setTxTimeout_txTimeout (s : State) (n : Nat) : (s.setTxTimeout n).txTimeout = n := rfl
@[simp] theorem State.setTxTimeout_tPulse (s : State) (n : Nat) : (s.setTxTimeout n).tPulse = s.tPulse := rfl
@[simp] theorem State.setTxTimeout_t0 (s : State) (n : Nat) : (s.setTxTimeout n).t0 = s.t0 := rfl
@[simp] theorem State.setTxTimeout_tWait (s : State) (n : Nat) : (s.setTxTimeout n).tWait = s.tWait := rfl
@[simp] theorem State.setTxTimeout_pollStatus (s : State) (n : Nat) : (s.setTxTimeout n).pollStatus = s.pollStatus := rfl
@[simp] theorem State.setTxTimeout_finalStatus (s : State) (n : Nat) : (s.setTxTimeout n).finalStatus = s.finalStatus := rfl
@[simp] theorem State.setTxTimeout_stOrig (s : State) (n : Nat) : (s.setTxTimeout n).stOrig = s.stOrig := rfl
@[simp] theorem State.setTxTimeout_stRead (s : State) (n : Nat) : (s.setTxTimeout n).stRead = s.stRead := rfl
@[simp] theorem State.setTxTimeout_params (s : State) (n : Nat) : (s.setTxTimeout n).params = s.params := rfl
@[simp] theorem State.setTxTimeout_env (s : State) (n : Nat) : (s.setTxTimeout n).env = s.env := rfl
@[simp] theorem State.setTxTimeout_rxData (s : State) (n : Nat) : (s.setTxTimeout n).rxData = s.rxData := rfl
@[simp] theorem State.setTxTimeout_channelCall (s : State) (n : Nat) : (s.setTxTimeout n).channelCall = s.channelCall := rfl
@[simp] theorem State.setTxTimeout_requests (s : State) (n : Nat) : (s.setTxTimeout n).requests = s.requests := rfl
@[simp] theorem State.setTxTimeout_results (s : State) (n : Nat) : (s.setTxTimeout n).results = s.results := rfl
@[simp] theorem State.setTxTimeout_trace (s : State) (n : Nat) : (s.setTxTimeout n).trace = s.trace := rfl

@[simp] theorem State.setTPulse_phase (s : State) (n : Nat) : (s.setTPulse n).phase = s.phase := rfl
@[simp] theorem State.setTPulse_csn (s : State) (n : Nat) : (s.setTPulse n).csn = s.csn := rfl
@[simp] theorem State.setTPulse_ce (s : State) (n : Nat) : (s.setTPulse n).ce = s.ce := rfl
@[simp] theorem State.setTPulse_lastStatus (s : State) (n : Nat) : (s.setTPulse n).lastStatus = s.lastStatus := rfl
@[simp] theorem State.setTPulse_initialized (s : State) (n : Nat) : (s.setTPulse n).initialized = s.initialized := rfl
@[simp] theorem State.setTPulse_cfg (s : State) (n : Nat) : (s.setTPulse n).cfg = s.cfg := rfl
@[simp] theorem State.setTPulse_stats (s : State) (n : Nat) : (s.setTPulse n).stats = s.stats := rfl
@[simp] theorem State.setTPulse_ackBuf (s : State) (n : Nat) : (s.setTPulse n).ackBuf = s.ackBuf := rfl
@[simp] theorem State.setTPulse_ackLen (s : State) (n : Nat) : (s.setTPulse n).ackLen = s.ackLen := rfl
@[simp] theorem State.setTPulse_txPayload (s : State) (n : Nat) : (s.setTPulse n).txPayload = s.txPayload := rfl
@[simp] theorem State.setTPulse_txAck (s : State) (n : Nat) : (s.setTPulse n).txAck = s.txAck := rfl
@[simp] theorem State.setTPulse_txTimeout (s : State) (n : Nat) : (s.setTPulse n).txTimeout = s.txTimeout := rfl
@[simp] theorem State.setTPulse_tPulse (s : State) (n : Nat) : (s.setTPulse n).tPulse = n := rfl
@[simp] theorem State.setTPulse_t0 (s : State) (n : Nat) : (s.setTPulse n).t0 = s.t0 := rfl
@[simp] theorem State.setTPulse_tWait (s : State) (n : Nat) : (s.setTPulse n).tWait = s.tWait := rfl
@[simp] theorem State.setTPulse_pollStatus (s : State) (n : Nat) : (s.setTPulse n).pollStatus = s.pollStatus := rfl
@[simp] theorem State.setTPulse_finalStatus (s : State) (n : Nat) : (s.setTPulse n).finalStatus = s.finalStatus := rfl
@[simp] theorem State.setTPulse_stOrig (s : State) (n : Nat) : (s.setTPulse n).stOrig = s.stOrig := rfl
@[simp] theorem State.setTPulse_stRead (s : State) (n : Nat) : (s.setTPulse n).stRead = s.stRead := rfl
@[simp] theorem State.setTPulse_params (s : State) (n : Nat) : (s.setTPulse n).params = s.params := rfl
@[simp] theorem State.setTPulse_env (s : State) (n : Nat) : (s.setTPulse n).env = s.env := rfl
@[simp] theorem State.setTPulse_rxData (s : State) (n : Nat) : (s.setTPulse n).rxData = s.rxData := rfl
@[simp] theorem State.setTPulse_channelCall (s : State) (n : Nat) : (s.setTPulse n).channelCall = s.channelCall := rfl
@[simp] theorem State.setTPulse_requests (s : State) (n : Nat) : (s.setTPulse n).requests = s.requests := rfl
@[simp] theorem State.setTPulse_results (s : State) (n : Nat) : (s.setTPulse n).results = s.results := rfl
@[simp] theorem State.setTPulse_trace (s : State) (n : Nat) : (s.setTPulse n).trace = s.trace := rfl

@[simp] theorem State.setT0_phase (s : State) (n : Nat) : (s.setT0 n).phase = s.phase := rfl
@[simp] theorem State.setT0_csn (s : State) (n : Nat) : (s.setT0 n).csn = s.csn := rfl
@[simp] theorem State.setT0_ce (s : State) (n : Nat) : (s.setT0 n).ce = s.ce := rfl
@[simp] theorem State.setT0_lastStatus (s : State) (n : Nat) : (s.setT0 n).lastStatus = s.lastStatus := rfl
@[simp] theorem State.setT0_initialized (s : State) (n : Nat) : (s.setT0 n).initialized = s.initialized := rfl
@[simp] theorem State.setT0_cfg (s : State) (n : Nat) : (s.setT0 n).cfg = s.cfg := rfl
@[simp] theorem State.setT0_stats (s : State) (n : Nat) : (s.setT0 n).stats = s.stats := rfl
@[simp] theorem State.setT0_ackBuf (s : State) (n : Nat) : (s.setT0 n).ackBuf = s.ackBuf := rfl
@[simp] theorem State.setT0_ackLen (s : State) (n : Nat) : (s.setT0 n).ackLen = s.ackLen := rfl
@[simp] theorem State.setT0_txPayload (s : State) (n : Nat) : (s.setT0 n).txPayload = s.txPayload := rfl
@[simp] theorem State.setT0_txAck (s : State) (n : Nat) : (s.setT0 n).txAck = s.txAck := rfl
@[simp] theorem State.setT0_txTimeout (s : State) (n : Nat) : (s.setT0 n).txTimeout = s.txTimeout := rfl
@[simp] theorem State.setT0_tPulse (s : State) (n : Nat) : (s.setT0 n).tPulse = s.tPulse := rfl
@[simp] theorem State.setT0_t0 (s : State) (n : Nat) : (s.setT0 n).t0 = n := rfl
@[simp] theorem State.setT0_tWait (s : State) (n : Nat) : (s.setT0 n).tWait = s.tWait := rfl
@[simp] theorem State.setT0_pollStatus (s : State) (n : Nat) : (s.setT0 n).pollStatus = s.pollStatus := rfl
@[simp] theorem State.setT0_finalStatus (s : State) (n : Nat) : (s.setT0 n).finalStatus = s.finalStatus := rfl
@[simp] theorem State.setT0_stOrig (s : State) (n : Nat) : (s.setT0 n).stOrig = s.stOrig := rfl
@[simp] theorem State.setT0_stRead (s : State) (n : Nat) : (s.setT0 n).stRead = s.stRead := rfl
@[simp] theorem State.setT0_params (s : State) (n : Nat) : (s.setT0 n).params = s.params := rfl
@[simp] theorem State.setT0_env (s : State) (n : Nat) : (s.setT0 n).env = s.env := rfl
@[simp] theorem State.setT0_rxData (s : State) (n : Nat) : (s.setT0 n).rxData = s.rxData := rfl
@[simp] theorem State.setT0_channelCall (s : State) (n : Nat) : (s.setT0 n).channelCall = s.channelCall := rfl
@[simp] theorem State.setT0_requests (s : State) (n : Nat) : (s.setT0 n).requests = s.requests := rfl
@[simp] theorem State.setT0_results (s : State) (n : Nat) : (s.setT0 n).results = s.results := rfl
@[simp] theorem State.setT0_trace (s : State) (n : Nat) : (s.setT0 n).trace = s.trace := rfl

@[simp] theorem State.setTWait_phase (s : State) (n : Nat) : (s.setTWait n).phase = s.phase := rfl
@[simp] theorem State.setTWait_csn (s : State) (n : Nat) : (s.setTWait n).csn = s.csn := rfl
@[simp] theorem State.setTWait_ce (s : State) (n : Nat) : (s.setTWait n).ce = s.ce := rfl
@[simp] theorem State.setTWait_lastStatus (s : State) (n : Nat) : (s.setTWait n).lastStatus = s.lastStatus := rfl
@[simp] theorem State.setTWait_initialized (s : State) (n : Nat) : (s.setTWait n).initialized = s.initialized := rfl
@[simp] theorem State.setTWait_cfg (s : State) (n : Nat) : (s.setTWait n).cfg = s.cfg := rfl
@[simp] theorem State.setTWait_stats (s : State) (n : Nat) : (s.setTWait n).stats = s.stats := rfl
@[simp] theorem State.setTWait_ackBuf (s : State) (n : Nat) : (s.setTWait n).ackBuf = s.ackBuf := rfl
@[simp] theorem State.setTWait_ackLen (s : State) (n : Nat) : (s.setTWait n).ackLen = s.ackLen := rfl
@[simp] theorem State.setTWait_txPayload (s : State) (n : Nat) : (s.setTWait n).txPayload = s.txPayload := rfl
@[simp] theorem State.setTWait_txAck (s : State) (n : Nat) : (s.setTWait n).txAck = s.txAck := rfl
@[simp] theorem State.setTWait_txTimeout (s : State) (n : Nat) : (s.setTWait n).txTimeout = s.txTimeout := rfl
@[simp] theorem State.setTWait_tPulse (s : State) (n : Nat) : (s.setTWait n).tPulse = s.tPulse := rfl
@[simp] theorem State.setTWait_t0 (s : State) (n : Nat) : (s.setTWait n).t0 = s.t0 := rfl
@[simp] theorem State.setTWait_tWait (s : State) (n : Nat) : (s.setTWait n).tWait = n := rfl
@[simp] theorem State.setTWait_pollStatus (s : State) (n : Nat) : (s.setTWait n).pollStatus = s.pollStatus := rfl
@[simp] theorem State.setTWait_finalStatus (s : State) (n : Nat) : (s.setTWait n).finalStatus = s.finalStatus := rfl
@[simp] theorem State.setTWait_stOrig (s : State) (n : Nat) : (s.setTWait n).stOrig = s.stOrig := rfl
@[simp] theorem State.setTWait_stRead (s : State) (n : Nat) : (s.setTWait n).stRead = s.stRead := rfl
@[simp] theorem State.setTWait_params (s : State) (n : Nat) : (s.setTWait n).params = s.params := rfl
@[simp] theorem State.setTWait_env (s : State) (n : Nat) : (s.setTWait n).env = s.env := rfl
@[simp] theorem State.setTWait_rxData (s : State) (n : Nat) : (s.setTWait n).rxData = s.rxData := rfl
@[simp] theorem State.setTWait_channelCall (s : State) (n : Nat) : (s.setTWait n).channelCall = s.channelCall := rfl
@[simp] theorem State.setTWait_requests (s : State) (n : Nat) : (s.setTWait n).requests = s.requests := rfl
@[simp] theorem State.setTWait_results (s : State) (n : Nat) : (s.setTWait n).results = s.results := rfl
@[simp] theorem State.setTWait_trace (s : State) (n : Nat) : (s.setTWait n).trace = s.trace := rfl

@[simp] theorem State.setPollStatus_phase (s : State) (b : Byte) : (s.setPollStatus b).phase = s.phase := rfl
@[simp] theorem State.setPollStatus_csn (s : State) (b : Byte) : (s.setPollStatus b).csn = s.csn := rfl
@[simp] theorem State.setPollStatus_ce (s : State) (b : Byte) : (s.setPollStatus b).ce = s.ce := rfl
@[simp] theorem State.setPollStatus_lastStatus (s : State) (b : Byte) : (s.setPollStatus b).lastStatus = s.lastStatus := rfl
@[simp] theorem State.setPollStatus_initialized (s : State) (b : Byte) : (s.setPollStatus b).initialized = s.initialized := rfl
@[simp] theorem State.setPollStatus_cfg (s : State) (b : Byte) : (s.setPollStatus b).cfg = s.cfg := rfl
@[simp] theorem State.setPollStatus_stats (s : State) (b : Byte) : (s.setPollStatus b).stats = s.stats := rfl
@[simp] theorem State.setPollStatus_ackBuf (s : State) (b : Byte) : (s.setPollStatus b).ackBuf = s.ackBuf := rfl
@[simp] theorem State.setPollStatus_ackLen (s : State) (b : Byte) : (s.setPollStatus b).ackLen = s.ackLen := rfl
@[simp] theorem State.setPollStatus_txPayload (s : State) (b : Byte) : (s.setPollStatus b).txPayload = s.txPayload := rfl
@[simp] theorem State.setPollStatus_txAck (s : State) (b : Byte) : (s.setPollStatus b).txAck = s.txAck := rfl
@[simp] theorem State.setPollStatus_txTimeout (s : State) (b : Byte) : (s.setPollStatus b).txTimeout = s.txTimeout := rfl
@[simp] theorem State.setPollStatus_tPulse (s : State) (b : Byte) : (s.setPollStatus b).tPulse = s.tPulse := rfl
@[simp] theorem State.setPollStatus_t0 (s : State) (b : Byte) : (s.setPollStatus b).t0 = s.t0 := rfl
@[simp] theorem State.setPollStatus_tWait (s : State) (b : Byte) : (s.setPollStatus b).tWait = s.tWait := rfl
@[simp] theorem State.setPollStatus_pollStatus (s : State) (b : Byte) : (s.setPollStatus b).pollStatus = b := rfl
@[simp] theorem State.setPollStatus_finalStatus (s : State) (b : Byte) : (s.setPollStatus b).finalStatus = s.finalStatus := rfl
@[simp] theorem State.setPollStatus_stOrig (s : State) (b : Byte) : (s.setPollStatus b).stOrig = s.stOrig := rfl
@[simp] theorem State.setPollStatus_stRead (s : State) (b : Byte) : (s.setPollStatus b).stRead = s.stRead := rfl
@[simp] theorem State.setPollStatus_params (s : State) (b : Byte) : (s.setPollStatus b).params = s.params := rfl
@[simp] theorem State.setPollStatus_env (s : State) (b : Byte) : (s.setPollStatus b).env = s.env := rfl
@[simp] theorem State.setPollStatus_rxData (s : State) (b : Byte) : (s.setPollStatus b).rxData = s.rxData := rfl
@[simp] theorem State.setPollStatus_channelCall (s : State) (b : Byte) : (s.setPollStatus b).channelCall = s.channelCall := rfl
@[simp] theorem State.setPollStatus_requests (s : State) (b : Byte) : (s.setPollStatus b).requests = s.requests := rfl
@[simp] theorem State.setPollStatus_results (s : State) (b : Byte) : (s.setPollStatus b).results = s.results := rfl
@[simp] theorem State.setPollStatus_trace (s : State) (b : Byte) : (s.setPollStatus b).trace = s.trace := rfl

@[simp] theorem State.setFinalStatus_phase (s : State) (b : Byte) : (s.setFinalStatus b).phase = s.phase := rfl
@[simp] theorem State.setFinalStatus_csn (s : State) (b : Byte) : (s.setFinalStatus b).csn = s.csn := rfl
@[simp] theorem State.setFinalStatus_ce (s : State) (b : Byte) : (s.setFinalStatus b).ce = s.ce := rfl
@[simp] theorem State.setFinalStatus_lastStatus (s : State) (b : Byte) : (s.setFinalStatus b).lastStatus = s.lastStatus := rfl
@[simp] theorem State.setFinalStatus_initialized (s : State) (b : Byte) : (s.setFinalStatus b).initialized = s.initialized := rfl
@[simp] theorem State.setFinalStatus_cfg (s : State) (b : Byte) : (s.setFinalStatus b).cfg = s.cfg := rfl
@[simp] theorem State.setFinalStatus_stats (s : State) (b : Byte) : (s.setFinalStatus b).stats = s.stats := rfl
@[simp] theorem State.setFinalStatus_ackBuf (s : State) (b : Byte) : (s.setFinalStatus b).ackBuf = s.ackBuf := rfl
@[simp] theorem State.setFinalStatus_ackLen (s : State) (b : Byte) : (s.setFinalStatus b).ackLen = s.ackLen := rfl
@[simp] theorem State.setFinalStatus_txPayload (s : State) (b : Byte) : (s.setFinalStatus b).txPayload = s.txPayload := rfl
@[simp] theorem State.setFinalStatus_txAck (s : State) (b : Byte) : (s.setFinalStatus b).txAck = s.txAck := rfl
@[simp] theorem State.setFinalStatus_txTimeout (s : State) (b : Byte) : (s.setFinalStatus b).txTimeout = s.txTimeout := rfl
@[simp] theorem State.setFinalStatus_tPulse (s : State) (b : Byte) : (s.setFinalStatus b).tPulse = s.tPulse := rfl
@[simp] theorem State.setFinalStatus_t0 (s : State) (b : Byte) : (s.setFinalStatus b).t0 = s.t0 := rfl
@[simp] theorem State.setFinalStatus_tWait (s : State) (b : Byte) : (s.setFinalStatus b).tWait = s.tWait := rfl
@[simp] theorem State.setFinalStatus_pollStatus (s : State) (b : Byte) : (s.setFinalStatus b).pollStatus = s.pollStatus := rfl
@[simp] theorem State.setFinalStatus_finalStatus (s : State) (b : Byte) : (s.setFinalStatus b).finalStatus = b := rfl
@[simp] theorem State.setFinalStatus_stOrig (s : State) (b : Byte) : (s.setFinalStatus b).stOrig = s.stOrig := rfl
@[simp] theorem State.setFinalStatus_stRead (s : State) (b : Byte) : (s.setFinalStatus b).stRead = s.stRead := rfl
@[simp] theorem State.setFinalStatus_params (s : State) (b : Byte) : (s.setFinalStatus b).params = s.params := rfl
@[simp] theorem State.setFinalStatus_env (s : State) (b : Byte) : (s.setFinalStatus b).env = s.env := rfl
@[simp] theorem State.setFinalStatus_rxData (s : State) (b : Byte) : (s.setFinalStatus b).rxData = s.rxData := rfl
@[simp] theorem State.setFinalStatus_channelCall (s : State) (b : Byte) : (s.setFinalStatus b).channelCall = s.channelCall := rfl
@[simp] theorem State.setFinalStatus_requests (s : State) (b : Byte) : (s.setFinalStatus b).requests = s.requests := rfl
@[simp] theorem State.setFinalStatus_results (s : State) (b : Byte) : (s.setFinalStatus b).results = s.results := rfl
@[simp] theorem State.setFinalStatus_trace (s : State) (b : Byte) : (s.setFinalStatus b).trace = s.trace := rfl

@[simp] theorem State.setStOrig_phase (s : State) (b : Byte) : (s.setStOrig b).phase = s.phase := rfl
@[simp] theorem State.setStOrig_csn (s : State) (b : Byte) : (s.setStOrig b).csn = s.csn := rfl
@[simp] theorem State.setStOrig_ce (s : State) (b : Byte) : (s.setStOrig b).ce = s.ce := rfl
@[simp] theorem State.setStOrig_lastStatus (s : State) (b : Byte) : (s.setStOrig b).lastStatus = s.lastStatus := rfl
@[simp] theorem State.setStOrig_initialized (s : State) (b : Byte) : (s.setStOrig b).initialized = s.initialized := rfl
@[simp] theorem State.setStOrig_cfg (s : State) (b : Byte) : (s.setStOrig b).cfg = s.cfg := rfl
@[simp] theorem State.setStOrig_stats (s : State) (b : Byte) : (s.setStOrig b).stats = s.stats := rfl
@[simp] theorem State.setStOrig_ackBuf (s : State) (b : Byte) : (s.setStOrig b).ackBuf = s.ackBuf := rfl
@[simp] theorem State.setStOrig_ackLen (s : State) (b : Byte) : (s.setStOrig b).ackLen = s.ackLen := rfl
@[simp] theorem State.setStOrig_txPayload (s : State) (b : Byte) : (s.setStOrig b).txPayload = s.txPayload := rfl
@[simp] theorem State.setStOrig_txAck (s : State) (b : Byte) : (s.setStOrig b).txAck = s.txAck := rfl
@[simp] theorem State.setStOrig_txTimeout (s : State) (b : Byte) : (s.setStOrig b).txTimeout = s.txTimeout := rfl
@[simp] theorem State.setStOrig_tPulse (s : State) (b : Byte) : (s.setStOrig b).tPulse = s.tPulse := rfl
@[simp] theorem State.setStOrig_t0 (s : State) (b : Byte) : (s.setStOrig b).t0 = s.t0 := rfl
@[simp] theorem State.setStOrig_tWait (s : State) (b : Byte) : (s.setStOrig b).tWait = s.tWait := rfl
@[simp] theorem State.setStOrig_pollStatus (s : State) (b : Byte) : (s.setStOrig b).pollStatus = s.pollStatus := rfl
@[simp] theorem State.setStOrig_finalStatus (s : State) (b : Byte) : (s.setStOrig b).finalStatus = s.finalStatus := rfl
@[simp] theorem State.setStOrig_stOrig (s : State) (b : Byte) : (s.setStOrig b).stOrig = b := rfl
@[simp] theorem State.setStOrig_stRead (s : State) (b : Byte) : (s.setStOrig b).stRead = s.stRead := rfl
@[simp] theorem State.setStOrig_params (s : State) (b : Byte) : (s.setStOrig b).params = s.params := rfl
@[simp] theorem State.setStOrig_env (s : State) (b : Byte) : (s.setStOrig b).env = s.env := rfl
@[simp] theorem State.setStOrig_rxData (s : State) (b : Byte) : (s.setStOrig b).rxData = s.rxData := rfl
@[simp] theorem State.setStOrig_channelCall (s : State) (b : Byte) : (s.setStOrig b).channelCall = s.channelCall := rfl
@[simp] theorem State.setStOrig_requests (s : State) (b : Byte) : (s.setStOrig b).requests = s.requests := rfl
@[simp] theorem State.setStOrig_results (s : State) (b : Byte) : (s.setStOrig b).results = s.results := rfl
@[simp] theorem State.setStOrig_trace (s : State) (b : Byte) : (s.setStOrig b).trace = s.trace := rfl

@[simp] theorem State.setStRead_phase (s : State) (b : Byte) : (s.setStRead b).phase = s.phase := rfl
@[simp] theorem State.setStRead_csn (s : State) (b : Byte) : (s.setStRead b).csn = s.csn := rfl
@[simp] theorem State.setStRead_ce (s : State) (b : Byte) : (s.setStRead b).ce = s.ce := rfl
@[simp] theorem State.setStRead_lastStatus (s : State) (b : Byte) : (s.setStRead b).lastStatus = s.lastStatus := rfl
@[simp] theorem State.setStRead_initialized (s : State) (b : Byte) : (s.setStRead b).initialized = s.initialized := rfl
@[simp] theorem State.setStRead_cfg (s : State) (b : Byte) : (s.setStRead b).cfg = s.cfg := rfl
@[simp] theorem State.setStRead_stats (s : State) (b : Byte) : (s.setStRead b).stats = s.stats := rfl
@[simp] theorem State.setStRead_ackBuf (s : State) (b : Byte) : (s.setStRead b).ackBuf = s.ackBuf := rfl
@[simp] theorem State.setStRead_ackLen (s : State) (b : Byte) : (s.setStRead b).ackLen = s.ackLen := rfl
@[simp] theorem State.setStRead_txPayload (s : State) (b : Byte) : (s.setStRead b).txPayload = s.txPayload := rfl
@[simp] theorem State.setStRead_txAck (s : State) (b : Byte) : (s.setStRead b).txAck = s.txAck := rfl
@[simp] theorem State.setStRead_txTimeout (s : State) (b : Byte) : (s.setStRead b).txTimeout = s.txTimeout := rfl
@[simp] theorem State.setStRead_tPulse (s : State) (b : Byte) : (s.setStRead b).tPulse = s.tPulse := rfl
@[simp] theorem State.setStRead_t0 (s : State) (b : Byte) : (s.setStRead b).t0 = s.t0 := rfl
@[simp] theorem State.setStRead_tWait (s : State) (b : Byte) : (s.setStRead b).tWait = s.tWait := rfl
@[simp] theorem State.setStRead_pollStatus (s : State) (b : Byte) : (s.setStRead b).pollStatus = s.pollStatus := rfl
@[simp] theorem State.setStRead_finalStatus (s : State) (b : Byte) : (s.setStRead b).finalStatus = s.finalStatus := rfl
@[simp] theorem State.setStRead_stOrig (s : State) (b : Byte) : (s.setStRead b).stOrig = s.stOrig := rfl
@[simp] theorem State.setStRead_stRead (s : State) (b : Byte) : (s.setStRead b).stRead = b := rfl
@[simp] theorem State.setStRead_params (s : State) (b : Byte) : (s.setStRead b).params = s.params := rfl
@[simp] theorem State.setStRead_env (s : State) (b : Byte) : (s.setStRead b).env = s.env := rfl
@[simp] theorem State.setStRead_rxData (s : State) (b : Byte) : (s.setStRead b).rxData = s.rxData := rfl
@[simp] theorem State.setStRead_channelCall (s : State) (b : Byte) : (s.setStRead b).channelCall = s.channelCall := rfl
@[simp] theorem State.setStRead_requests (s : State) (b : Byte) : (s.setStRead b).requests = s.requests := rfl
@[simp] theorem State.setStRead_results (s : State) (b : Byte) : (s.setStRead b).results = s.results := rfl
@[simp] theorem State.setStRead_trace (s : State) (b : Byte) : (s.setStRead b).trace = s.trace := rfl

@[simp] theorem State.setEnv_phase (s : State) (e : Env) : (s.setEnv e).phase = s.phase := rfl
@[simp] theorem State.setEnv_csn (s : State) (e : Env) : (s.setEnv e).csn = s.csn := rfl
@[simp] theorem State.setEnv_ce (s : State) (e : Env) : (s.setEnv e).ce = s.ce := rfl
@[simp] theorem State.setEnv_lastStatus (s : State) (e : Env) : (s.setEnv e).lastStatus = s.lastStatus := rfl
@[simp] theorem State.setEnv_initialized (s : State) (e : Env) : (s.setEnv e).initialized = s.initialized := rfl
@[simp] theorem State.setEnv_cfg (s : State) (e : Env) : (s.setEnv e).cfg = s.cfg := rfl
@[simp] theorem State.setEnv_stats (s : State) (e : Env) : (s.setEnv e).stats = s.stats := rfl
@[simp] theorem State.setEnv_ackBuf (s : State) (e : Env) : (s.setEnv e).ackBuf = s.ackBuf := rfl
@[simp] theorem State.setEnv_ackLen (s : State) (e : Env) : (s.setEnv e).ackLen = s.ackLen := rfl
@[simp] theorem State.setEnv_txPayload (s : State) (e : Env) : (s.setEnv e).txPayload = s.txPayload := rfl
@[simp] theorem State.setEnv_txAck (s : State) (e : Env) : (s.setEnv e).txAck = s.txAck := rfl
@[simp] theorem State.setEnv_txTimeout (s : State) (e : Env) : (s.setEnv e).txTimeout = s.txTimeout := rfl
@[simp] theorem State.setEnv_tPulse (s : State) (e : Env) : (s.setEnv e).tPulse = s.tPulse := rfl
@[simp] theorem State.setEnv_t0 (s : State) (e : Env) : (s.setEnv e).t0 = s.t0 := rfl
@[simp] theorem State.setEnv_tWait (s : State) (e : Env) : (s.setEnv e).tWait = s.tWait := rfl
@[simp] theorem State.setEnv_pollStatus (s : State) (e : Env) : (s.setEnv e).pollStatus = s.pollStatus := rfl
@[simp] theorem State.setEnv_finalStatus (s : State) (e : Env) : (s.setEnv e).finalStatus = s.finalStatus := rfl
@[simp] theorem State.setEnv_stOrig (s : State) (e : Env) : (s.setEnv e).stOrig = s.stOrig := rfl
@[simp] theorem State.setEnv_stRead (s : State) (e : Env) : (s.setEnv e).stRead = s.stRead := rfl
@[simp] theorem State.setEnv_params (s : State) (e : Env) : (s.setEnv e).params = s.params := rfl
@[simp] theorem State.setEnv_env (s : State) (e : Env) : (s.setEnv e).env = e := rfl
@[simp] theorem State.setEnv_rxData (s : State) (e : Env) : (s.setEnv e).rxData = s.rxData := rfl
@[simp] theorem State.setEnv_channelCall (s : State) (e : Env) : (s.setEnv e).channelCall = s.channelCall := rfl
@[simp] theorem State.setEnv_requests (s : State) (e : Env) : (s.setEnv e).requests = s.requests := rfl
@[simp] theorem State.setEnv_results (s : State) (e : Env) : (s.setEnv e).results = s.results := rfl
@[simp] theorem State.setEnv_trace (s : State) (e : Env) : (s.setEnv e).trace = s.trace := rfl

@[simp] theorem State.setRxData_phase (s : State) (d : List Byte) : (s.setRxData d).phase = s.phase := rfl
@[simp] theorem State.setRxData_csn (s : State) (d : List Byte) : (s.setRxData d).csn = s.csn := rfl
@[simp] theorem State.setRxData_ce (s : State) (d : List Byte) : (s.setRxData d).ce = s.ce := rfl
@[simp] theorem State.setRxData_lastStatus (s : State) (d : List Byte) : (s.setRxData d).lastStatus = s.lastStatus := rfl
@[simp] theorem State.setRxData_initialized (s : State) (d : List Byte) : (s.setRxData d).initialized = s.initialized := rfl
@[simp] theorem State.setRxData_cfg (s : State) (d : List Byte) : (s.setRxData d).cfg = s.cfg := rfl
@[simp] theorem State.setRxData_stats (s : State) (d : List Byte) : (s.setRxData d).stats = s.stats := rfl
@[simp] theorem State.setRxData_ackBuf (s : State) (d : List Byte) : (s.setRxData d).ackBuf = s.ackBuf := rfl
@[simp] theorem State.setRxData_ackLen (s : State) (d : List Byte) : (s.setRxData d).ackLen = s.ackLen := rfl
@[simp] theorem State.setRxData_txPayload (s : State) (d : List Byte) : (s.setRxData d).txPayload = s.txPayload := rfl
@[simp] theorem State.setRxData_txAck (s : State) (d : List Byte) : (s.setRxData d).txAck = s.txAck := rfl
@[simp] theorem State.setRxData_txTimeout (s : State) (d : List Byte) : (s.setRxData d).txTimeout = s.txTimeout := rfl
@[simp] theorem State.setRxData_tPulse (s : State) (d : List Byte) : (s.setRxData d).tPulse = s.tPulse := rfl
@[simp] theorem State.setRxData_t0 (s : State) (d : List Byte) : (s.setRxData d).t0 = s.t0 := rfl
@[simp] theorem State.setRxData_tWait (s : State) (d : List Byte) : (s.setRxData d).tWait = s.tWait := rfl
@[simp] theorem State.setRxData_pollStatus (s : State) (d : List Byte) : (s.setRxData d).pollStatus = s.pollStatus := rfl
@[simp] theorem State.setRxData_finalStatus (s : State) (d : List Byte) : (s.setRxData d).finalStatus = s.finalStatus := rfl
@[simp] theorem State.setRxData_stOrig (s : State) (d : List Byte) : (s.setRxData d).stOrig = s.stOrig := rfl
@[simp] theorem State.setRxData_stRead (s : State) (d : List Byte) : (s.setRxData d).stRead = s.stRead := rfl
@[simp] theorem State.setRxData_params (s : State) (d : List Byte) : (s.setRxData d).params = s.params := rfl
@[simp] theorem State.setRxData_env (s : State) (d : List Byte) : (s.setRxData d).env = s.env := rfl
@[simp] theorem State.setRxData_rxData (s : State) (d : List Byte) : (s.setRxData d).rxData = d := rfl
@[simp] theorem State.setRxData_channelCall (s : State) (d : List Byte) : (s.setRxData d).channelCall = s.channelCall := rfl
@[simp] theorem State.setRxData_requests (s : State) (d : List Byte) : (s.setRxData d).requests = s.requests := rfl
@[simp] theorem State.setRxData_results (s : State) (d : List Byte) : (s.setRxData d).results = s.results := rfl
@[simp] theorem State.setRxData_trace (s : State) (d : List Byte) : (s.setRxData d).trace = s.trace := rfl

@[simp] theorem State.setChannelCall_phase (s : State) (w : Option (List Byte)) : (s.setChannelCall w).phase = s.phase := rfl
@[simp] theorem State.setChannelCall_csn (s : State) (w : Option (List Byte)) : (s.setChannelCall w).csn = s.csn := rfl
@[simp] theorem State.setChannelCall_ce (s : State) (w : Option (List Byte)) : (s.setChannelCall w).ce = s.ce := rfl
@[simp] theorem State.setChannelCall_lastStatus (s : State) (w : Option (List Byte)) : (s.setChannelCall w).lastStatus = s.lastStatus := rfl
@[simp] theorem State.setChannelCall_initialized (s : State) (w : Option (List Byte)) : (s.setChannelCall w).initialized = s.initialized := rfl
@[simp] theorem State.setChannelCall_cfg (s : State) (w : Option (List Byte)) : (s.setChannelCall w).cfg = s.cfg := rfl
@[simp] theorem State.setChannelCall_stats (s : State) (w : Option (List Byte)) : (s.setChannelCall w).stats = s.stats := rfl
@[simp] theorem State.setChannelCall_ackBuf (s : State) (w : Option (List Byte)) : (s.setChannelCall w).ackBuf = s.ackBuf := rfl
@[simp] theorem State.setChannelCall_ackLen (s : State) (w : Option (List Byte)) : (s.setChannelCall w).ackLen = s.ackLen := rfl
@[simp] theorem State.setChannelCall_txPayload (s : State) (w : Option (List Byte)) : (s.setChannelCall w).txPayload = s.txPayload := rfl
@[simp] theorem State.setChannelCall_txAck (s : State) (w : Option (List Byte)) : (s.setChannelCall w).txAck = s.txAck := rfl
@[simp] theorem State.setChannelCall_txTimeout (s : State) (w : Option (List Byte)) : (s.setChannelCall w).txTimeout = s.txTimeout := rfl
@[simp] theorem State.setChannelCall_tPulse (s : State) (w : Option (List Byte)) : (s.setChannelCall w).tPulse = s.tPulse := rfl
@[simp] theorem State.setChannelCall_t0 (s : State) (w : Option (List Byte)) : (s.setChannelCall w).t0 = s.t0 := rfl
@[simp] theorem State.setChannelCall_tWait (s : State) (w : Option (List Byte)) : (s.setChannelCall w).tWait = s.tWait := rfl
@[simp] theorem State.setChannelCall_pollStatus (s : State) (w : Option (List Byte)) : (s.setChannelCall w).pollStatus = s.pollStatus := rfl
@[simp] theorem State.setChannelCall_finalStatus (s : State) (w : Option (List Byte)) : (s.setChannelCall w).finalStatus = s.finalStatus := rfl
@[simp] theorem State.setChannelCall_stOrig (s : State) (w : Option (List Byte)) : (s.setChannelCall w).stOrig = s.stOrig := rfl
@[simp] theorem State.setChannelCall_stRead (s : State) (w : Option (List Byte)) : (s.setChannelCall w).stRead = s.stRead := rfl
@[simp] theorem State.setChannelCall_params (s : State) (w : Option (List Byte)) : (s.setChannelCall w).params = s.params := rfl
@[simp] theorem State.setChannelCall_env (s : State) (w : Option (List Byte)) : (s.setChannelCall w).env = s.env := rfl
@[simp] theorem State.setChannelCall_rxData (s : State) (w : Option (List Byte)) : (s.setChannelCall w).rxData = s.rxData := rfl
@[simp] theorem State.setChannelCall_channelCall (s : State) (w : Option (List Byte)) : (s.setChannelCall w).channelCall = w := rfl
@[simp] theorem State.setChannelCall_requests (s : State) (w : Option (List Byte)) : (s.setChannelCall w).requests = s.requests := rfl
@[simp] theorem State.setChannelCall_results (s : State) (w : Option (List Byte)) : (s.setChannelCall w).results = s.results := rfl
@[simp] theorem State.setChannelCall_trace (s : State) (w : Option (List Byte)) : (s.setChannelCall w).trace = s.trace := rfl

@[simp] theorem State.setRequests_phase (s : State) (o : List HostOp) : (s.setRequests o).phase = s.phase := rfl
@[simp] theorem State.setRequests_csn (s : State) (o : List HostOp) : (s.setRequests o).csn = s.csn := rfl
@[simp] theorem State.setRequests_ce (s : State) (o : List HostOp) : (s.setRequests o).ce = s.ce := rfl
@[simp] theorem State.setRequests_lastStatus (s : State) (o : List HostOp) : (s.setRequests o).lastStatus = s.lastStatus := rfl
@[simp] theorem State.setRequests_initialized (s : State) (o : List HostOp) : (s.setRequests o).initialized = s.initialized := rfl
@[simp] theorem State.setRequests_cfg (s : State) (o : List HostOp) : (s.setRequests o).cfg = s.cfg := rfl
@[simp] theorem State.setRequests_stats (s : State) (o : List HostOp) : (s.setRequests o).stats = s.stats := rfl
@[simp] theorem State.setRequests_ackBuf (s : State) (o : List HostOp) : (s.setRequests o).ackBuf = s.ackBuf := rfl
@[simp] theorem State.setRequests_ackLen (s : State) (o : List HostOp) : (s.setRequests o).ackLen = s.ackLen := rfl
@[simp] theorem State.setRequests_txPayload (s : State) (o : List HostOp) : (s.setRequests o).txPayload = s.txPayload := rfl
@[simp] theorem State.setRequests_txAck (s : State) (o : List HostOp) : (s.setRequests o).txAck = s.txAck := rfl
@[simp] theorem State.setRequests_txTimeout (s : State) (o : List HostOp) : (s.setRequests o).txTimeout = s.txTimeout := rfl
@[simp] theorem State.setRequests_tPulse (s : State) (o : List HostOp) : (s.setRequests o).tPulse = s.tPulse := rfl
@[simp] theorem State.setRequests_t0 (s : State) (o : List HostOp) : (s.setRequests o).t0 = s.t0 := rfl
@[simp] theorem State.setRequests_tWait (s : State) (o : List HostOp) : (s.setRequests o).tWait = s.tWait := rfl
@[simp] theorem State.setRequests_pollStatus (s : State) (o : List HostOp) : (s.setRequests o).pollStatus = s.pollStatus := rfl
@[simp] theorem State.setRequests_finalStatus (s : State) (o : List HostOp) : (s.setRequests o).finalStatus = s.finalStatus := rfl
@[simp] theorem State.setRequests_stOrig (s : State) (o : List HostOp) : (s.setRequests o).stOrig = s.stOrig := rfl
@[simp] theorem State.setRequests_stRead (s : State) (o : List HostOp) : (s.setRequests o).stRead = s.stRead := rfl
@[simp] theorem State.setRequests_params (s : State) (o : List HostOp) : (s.setRequests o).params = s.params := rfl
@[simp] theorem State.setRequests_env (s : State) (o : List HostOp) : (s.setRequests o).env = s.env := rfl
@[simp] theorem State.setRequests_rxData (s : State) (o : List HostOp) : (s.setRequests o).rxData = s.rxData := rfl
@[simp] theorem State.setRequests_channelCall (s : State) (o : List HostOp) : (s.setRequests o).channelCall = s.channelCall := rfl
@[simp] theorem State.setRequests_requests (s : State) (o : List HostOp) : (s.setRequests o).requests = o := rfl
@[simp] theorem State.setRequests_results (s : State) (o : List HostOp) : (s.setRequests o).results = s.results := rfl
@[simp] theorem State.setRequests_trace (s : State) (o : List HostOp) : (s.setRequests o).trace = s.trace := rfl

@[simp] theorem State.pushResult_phase (s : State) (r : HostResult) : (s.pushResult r).phase = s.phase := rfl
@[simp] theorem State.pushResult_csn (s : State) (r : HostResult) : (s.pushResult r).csn = s.csn := rfl
@[simp] theorem State.pushResult_ce (s : State) (r : HostResult) : (s.pushResult r).ce = s.ce := rfl
@[simp] theorem State.pushResult_lastStatus (s : State) (r : HostResult) : (s.pushResult r).lastStatus = s.lastStatus := rfl
@[simp] theorem State.pushResult_initialized (s : State) (r : HostResult) : (s.pushResult r).initialized = s.initialized := rfl
@[simp] theorem State.pushResult_cfg (s : State) (r : HostResult) : (s.pushResult r).cfg = s.cfg := rfl
@[simp] theorem State.pushResult_stats (s : State) (r : HostResult) : (s.pushResult r).stats = s.stats := rfl
@[simp] theorem State.pushResult_ackBuf (s : State) (r : HostResult) : (s.pushResult r).ackBuf = s.ackBuf := rfl
@[simp] theorem State.pushResult_ackLen (s : State) (r : HostResult) : (s.pushResult r).ackLen = s.ackLen := rfl
@[simp] theorem State.pushResult_txPayload (s : State) (r : HostResult) : (s.pushResult r).txPayload = s.txPayload := rfl
@[simp] theorem State.pushResult_txAck (s : State) (r : HostResult) : (s.pushResult r).txAck = s.txAck := rfl
@[simp] theorem State.pushResult_txTimeout (s : State) (r : HostResult) : (s.pushResult r).txTimeout = s.txTimeout := rfl
@[simp] theorem State.pushResult_tPulse (s : State) (r : HostResult) : (s.pushResult r).tPulse = s.tPulse := rfl
@[simp] theorem State.pushResult_t0 (s : State) (r : HostResult) : (s.pushResult r).t0 = s.t0 := rfl
@[simp] theorem State.pushResult_tWait (s : State) (r : HostResult) : (s.pushResult r).tWait = s.tWait := rfl
@[simp] theorem State.pushResult_pollStatus (s : State) (r : HostResult) : (s.pushResult r).pollStatus = s.pollStatus := rfl
@[simp] theorem State.pushResult_finalStatus (s : State) (r : HostResult) : (s.pushResult r).finalStatus = s.finalStatus := rfl
@[simp] theorem State.pushResult_stOrig (s : State) (r : HostResult) : (s.pushResult r).stOrig = s.stOrig := rfl
@[simp] theorem State.pushResult_stRead (s : State) (r : HostResult) : (s.pushResult r).stRead = s.stRead := rfl
@[simp] theorem State.pushResult_params (s : State) (r : HostResult) : (s.pushResult r).params = s.params := rfl
@[simp] theorem State.pushResult_env (s : State) (r : HostResult) : (s.pushResult r).env = s.env := rfl
@[simp] theorem State.pushResult_rxData (s : State) (r : HostResult) : (s.pushResult r).rxData = s.rxData := rfl
@[simp] theorem State.pushResult_channelCall (s : State) (r : HostResult) : (s.pushResult r).channelCall = s.channelCall := rfl
@[simp] theorem State.pushResult_requests (s : State) (r : HostResult) : (s.pushResult r).requests = s.requests := rfl
@[simp] theorem State.pushResult_results (s : State) (r : HostResult) : (s.pushResult r).results = r :: s.results := rfl
@[simp] theorem State.pushResult_trace (s : State) (r : HostResult) : (s.pushResult r).trace = s.trace := rfl

@[simp] theorem State.emit_phase (s : State) (e : Event) : (s.emit e).phase = s.phase := rfl
@[simp] theorem State.emit_csn (s : State) (e : Event) : (s.emit e).csn = s.csn := rfl
@[simp] theorem State.emit_ce (s : State) (e : Event) : (s.emit e).ce = s.ce := rfl
@[simp] theorem State.emit_lastStatus (s : State) (e : Event) : (s.emit e).lastStatus = s.lastStatus := rfl
@[simp] theorem State.emit_initialized (s : State) (e : Event) : (s.emit e).initialized = s.initialized := rfl
@[simp] theorem State.emit_cfg (s : State) (e : Event) : (s.emit e).cfg = s.cfg := rfl
@[simp] theorem State.emit_stats (s : State) (e : Event) : (s.emit e).stats = s.stats := rfl
@[simp] theorem State.emit_ackBuf (s : State) (e : Event) : (s.emit e).ackBuf = s.ackBuf := rfl
@[simp] theorem State.emit_ackLen (s : State) (e : Event) : (s.emit e).ackLen = s.ackLen := rfl
@[simp] theorem State.emit_txPayload (s : State) (e : Event) : (s.emit e).txPayload = s.txPayload := rfl
@[simp] theorem State.emit_txAck (s : State) (e : Event) : (s.emit e).txAck = s.txAck := rfl
@[simp] theorem State.emit_txTimeout (s : State) (e : Event) : (s.emit e).txTimeout = s.txTimeout := rfl
@[simp] theorem State.emit_tPulse (s : State) (e : Event) : (s.emit e).tPulse = s.tPulse := rfl
@[simp] theorem State.emit_t0 (s : State) (e : Event) : (s.emit e).t0 = s.t0 := rfl
@[simp] theorem State.emit_tWait (s : State) (e : Event) : (s.emit e).tWait = s.tWait := rfl
@[simp] theorem State.emit_pollStatus (s : State) (e : Event) : (s.emit e).pollStatus = s.pollStatus := rfl
@[simp] theorem State.emit_finalStatus (s : State) (e : Event) : (s.emit e).finalStatus = s.finalStatus := rfl
@[simp] theorem State.emit_stOrig (s : State) (e : Event) : (s.emit e).stOrig = s.stOrig := rfl
@[simp] theorem State.emit_stRead (s : State) (e : Event) : (s.emit e).stRead = s.stRead := rfl
@[simp] theorem State.emit_params (s : State) (e : Event) : (s.emit e).params = s.params := rfl
@[simp] theorem State.emit_env (s : State) (e : Event) : (s.emit e).env = s.env := rfl
@[simp] theorem State.emit_rxData (s : State) (e : Event) : (s.emit e).rxData = s.rxData := rfl
@[simp] theorem State.emit_channelCall (s : State) (e : Event) : (s.emit e).channelCall = s.channelCall := rfl
@[simp] theorem State.emit_requests (s : State) (e : Event) : (s.emit e).requests = s.requests := rfl
@[simp] theorem State.emit_results (s : State) (e : Event) : (s.emit e).results = s.results := rfl
@[simp] theorem State.emit_trace (s : State) (e : Event) : (s.emit e).trace = e :: s.trace := rfl

end Sys2Proof.Machine
end

