-- ==== Sys2Proof/Laws/Ops.lean ====
section
/-! SUPPORT. What the draws, the pins, the error entry and the transaction do, said once: the proofs cite these and
do not unfold the operations. -/

namespace Sys2Proof.Machine

/-! ## Draws -/

@[simp] theorem Env.byteAt_dropBytes (e : Env) (n i : Nat) : (e.dropBytes n).byteAt i = e.byteAt (n + i) := by
  simp [Env.byteAt, Env.dropBytes, Nat.add_assoc]

@[simp] theorem Env.byteAt_dropFailure (e : Env) (i : Nat) : e.dropFailure.byteAt i = e.byteAt i := rfl

@[simp] theorem Env.failAt_dropFailure (e : Env) (i : Nat) : e.dropFailure.failAt i = e.failAt (i + 1) := by
  simp [Env.failAt, Env.dropFailure, Nat.add_right_comm, Nat.add_assoc]

@[simp] theorem Env.failAt_dropBytes (e : Env) (n i : Nat) : (e.dropBytes n).failAt i = e.failAt i := rfl

@[simp] theorem Env.bytes_length (e : Env) (n : Nat) : (e.bytes n).length = n := by simp [Env.bytes]

/-- One byte drawn. -/
@[simp] theorem Env.bytes_one (e : Env) : e.bytes 1 = [e.byteAt 0] := rfl

/-- The data block's bytes follow the status byte. -/
theorem Env.bytes_afterCommand (e : Env) (n : Nat) :
    (e.dropFailure.dropBytes 1).bytes n = (List.range n).map fun i => e.byteAt (i + 1) := by
  simp [Env.bytes, List.map_inj_left, Nat.add_comm]

/-- Readings are monotonic (10_state R23). -/
theorem Env.now_le_reading (e : Env) : e.now ≤ e.reading := Nat.le_add_right _ _

/-- The last reading is the one just drawn. -/
@[simp] theorem Env.tick_now (e : Env) : e.tick.now = e.reading := rfl

/-- A whole window's draws are those of its two exchanges. -/
theorem Env.afterWindow_eq (e : Env) (sent : List Byte) (h : sent ≠ []) :
    ((e.dropFailure.dropBytes 1).dropFailure.dropBytes sent.length) = e.afterWindow sent := by
  simp [Env.afterWindow, Env.dropFailure, Env.dropBytes, exchangeCount, h, Nat.add_assoc, Nat.add_comm]
  omega

/-- A window without a data block draws one answer and one byte. -/
theorem Env.afterWindow_nil (e : Env) : e.dropFailure.dropBytes 1 = e.afterWindow [] := by
  simp [Env.afterWindow, Env.dropFailure, Env.dropBytes, exchangeCount]

/-! ## Pins and the duplex primitive -/

theorem State.setPin_csn_eq (s : State) (v : Bool) :
    s.setPin .csn v = { s with csn := v, trace := .pin .csn v :: s.trace } := rfl

theorem State.setPin_ce_eq (s : State) (v : Bool) :
    s.setPin .ce v = { s with ce := v, trace := .pin .ce v :: s.trace } := rfl

theorem State.readClock_eq (s : State) :
    s.readClock = { s with env := s.env.tick, trace := .clock s.now :: s.trace } := rfl

theorem State.exchange_fails (s : State) (out : List Byte) (h : s.env.failAt 0 = true) :
    s.exchange out = { s with env := s.env.dropFailure, trace := .exchange out none :: s.trace } := by
  simp [State.exchange, State.exchangeFails, h, State.setEnv, State.emit]

theorem State.exchange_succeeds (s : State) (out : List Byte) (h : s.env.failAt 0 = false) :
    s.exchange out = { s with
      env := s.env.dropFailure.dropBytes out.length
      trace := .exchange out (some (s.env.bytes out.length)) :: s.trace } := by
  simp [State.exchange, State.exchangeFails, h, State.setEnv, State.emit]

/-! ## The latched configuration -/

/-- Where a configuration is latched, it is the one read. -/
theorem State.config_eq {s : State} {c : RadioConfiguration} (h : s.cfg = some c) : s.config = c := by
  simp [State.config, h]

/-! ## The clock -/

/-- An unbounded clock shows the reading and differences are natural (41_channel R194). -/
theorem elapsed_unbounded {p : Params} (h : p.clockBits = none) (t t' : Nat) : elapsed p t t' = t - t' := by
  simp [elapsed, h]

/-- A clock of `k` bits: the difference of two readings, the later one first, is taken modulo 2^k (41_channel R194). -/
theorem elapsed_wraps {p : Params} {k t t' : Nat} (h : p.clockBits = some k) (ht : t' ≤ t) :
    elapsed p (t % 2 ^ k) (t' % 2 ^ k) = (t - t') % 2 ^ k := by
  obtain ⟨d, rfl⟩ := Nat.exists_eq_add_of_le ht
  have hm : t' % 2 ^ k < 2 ^ k := Nat.mod_lt _ (Nat.two_pow_pos k)
  simp only [elapsed, h, Nat.mod_mod, Nat.add_sub_cancel_left, Nat.mod_add_mod]
  rw [← Nat.mod_add_mod, ← Nat.mod_add_mod t' (2 ^ k) d, Nat.mod_add_mod,
    show t' % 2 ^ k + d + (2 ^ k - t' % 2 ^ k) = d + 2 ^ k by omega, Nat.add_mod_right]

/-! ## Errors -/

/-- Raising IO_ERROR: everything it changes (60_exceptions R372). -/
theorem State.raise_eq (s : State) (e : OpError) :
    s.raise e = { s with
      initialized := s.initialized && !s.phase.isInit
      phase := s.phase.afterError
      results := .error e :: s.results } := rfl

/-- An error raised in a resting phase by a check leaves the state unchanged but for the error returned
(60_exceptions R372). -/
theorem State.raise_resting (s : State) (e : OpError) (h : s.resting) :
    s.raise e = s.pushResult (.error e) := by
  obtain h | h := h <;> cases s <;> simp_all [State.raise_eq, Phase.isInit, Phase.afterError, State.pushResult]

/-! ## The transaction -/

/-- Whether a transfer keeps the bytes received. -/
def Transfer.isRead : Transfer → Bool
  | .read _ => true
  | .write _ => false
  | .command => false

theorem Transfer.captured_eq (k : Transfer) (d : List Byte) : k.captured d = if k.isRead then d else [] := by
  cases k <;> rfl

/-- A transaction whose exchanges succeed leaves the completed state (41_channel R182). -/
theorem State.transact_ok (s : State) (cmd : Byte) (k : Transfer) (hc : s.csn = true)
    (h : s.exchangesSucceed (exchangeCount (k.sent (filler s.params)))) :
    s.transact cmd k = s.completed cmd (k.sent (filler s.params)) k.isRead := by
  have h0 : s.env.failAt 0 = false := h 0 (by unfold exchangeCount; split <;> omega)
  by_cases hs : k.sent (filler s.params) = []
  · cases s
    simp_all [State.transact, State.window, State.setPin_csn_eq, State.exchangeFails,
      State.exchange_succeeds, State.dataPart, State.completed, windowEvents, State.nextData,
      State.setLastStatus, State.setRxData, Env.afterWindow_nil, State.nextStatus, Env.bytes]
  · have h1 : s.env.failAt 1 = false := h 1 (by simp [exchangeCount, hs])
    cases s
    simp_all [State.transact, State.window, State.setPin_csn_eq, State.exchangeFails,
      State.exchange_succeeds, State.dataPart, State.completed, windowEvents, State.nextData,
      State.setLastStatus, State.setRxData, Env.afterWindow_eq, State.nextStatus,
      Env.bytes_afterCommand, Transfer.captured_eq]

/-- A transaction whose command byte's exchange fails (41_channel R182 line 4, R188). -/
theorem State.transact_commandFails (s : State) (cmd : Byte) (k : Transfer) (hc : s.csn = true)
    (h : s.env.failAt 0 = true) :
    s.transact cmd k = { s with
      env := s.env.dropFailure
      trace := .pin .csn true :: .exchange [cmd] none :: .pin .csn false :: s.trace
      initialized := s.initialized && !s.phase.isInit
      phase := s.phase.afterError
      results := .error .ioError :: s.results } := by
  cases s
  simp_all [State.transact, State.window, State.setPin_csn_eq, State.exchangeFails,
    State.exchange_fails, State.raise_eq]

/-- A transaction whose data block's exchange fails (41_channel R182 line 11, R188). -/
theorem State.transact_dataFails (s : State) (cmd : Byte) (k : Transfer) (hc : s.csn = true)
    (hs : k.sent (filler s.params) ≠ []) (h0 : s.env.failAt 0 = false) (h1 : s.env.failAt 1 = true) :
    s.transact cmd k = { s with
      lastStatus := some s.nextStatus
      rxData := []
      env := (s.env.dropFailure.dropBytes 1).dropFailure
      trace := .pin .csn true :: .exchange (k.sent (filler s.params)) none :: .exchange [cmd] (some [s.nextStatus]) ::
        .pin .csn false :: s.trace
      initialized := s.initialized && !s.phase.isInit
      phase := s.phase.afterError
      results := .error .ioError :: s.results } := by
  cases s
  simp_all [State.transact, State.window, State.setPin_csn_eq, State.exchangeFails,
    State.exchange_fails, State.exchange_succeeds, State.dataPart, State.raise_eq, Env.bytes,
    State.setLastStatus, State.setRxData, State.nextStatus]

/-- A transaction begun with CSN 0 stops the block and does nothing else (41_channel R183). -/
theorem State.transact_nested (s : State) (cmd : Byte) (k : Transfer) (hc : s.csn = false) :
    s.transact cmd k = { s with phase := .faulted .nestedTransaction } := by
  simp [State.transact, hc, State.stop, State.setPhase]

/-- Everything a transaction can do: stop, fail on the command byte or on the data block, or complete. -/
theorem State.transact_cases (s : State) (cmd : Byte) (k : Transfer) :
    (s.csn = false ∧ s.transact cmd k = { s with phase := .faulted .nestedTransaction }) ∨
    (s.csn = true ∧ ∃ m f md fd tr ls rx, s.transact cmd k = { s with
      env := { s.env with miso := m, failures := f, misoDrawn := md, failuresDrawn := fd }
      trace := tr
      lastStatus := ls
      rxData := rx
      initialized := s.initialized && !s.phase.isInit
      phase := s.phase.afterError
      results := .error .ioError :: s.results }) ∨
    (s.csn = true ∧ s.transact cmd k = s.completed cmd (k.sent (filler s.params)) k.isRead) := by
  by_cases hc : s.csn = true
  swap
  · rw [Bool.not_eq_true] at hc
    exact .inl ⟨hc, s.transact_nested cmd k hc⟩
  refine .inr ?_
  cases h0 : s.env.failAt 0
  · by_cases hs : k.sent (filler s.params) = []
    · exact .inr ⟨hc, s.transact_ok cmd k hc fun i hi => by
        simp only [exchangeCount, hs, if_true] at hi
        obtain rfl : i = 0 := by omega
        exact h0⟩
    cases h1 : s.env.failAt 1
    · refine .inr ⟨hc, s.transact_ok cmd k hc fun i hi => ?_⟩
      simp only [exchangeCount, hs, if_false] at hi
      obtain rfl | rfl : i = 0 ∨ i = 1 := by omega
      exacts [h0, h1]
    · exact .inl ⟨hc, _, _, _, _, _, _, _, s.transact_dataFails cmd k hc hs h0 h1⟩
  · exact .inl ⟨hc, _, _, _, _, _, s.lastStatus, s.rxData, s.transact_commandFails cmd k hc h0⟩

end Sys2Proof.Machine
end

