-- ==== Sys2Proof/Laws/PerInstr.lean ====
section
/-! SUPPORT. A statement made instruction by instruction: in every value set that can be read back, the command byte the
encoder writes is read as the command's own row of the opcode table (30_encoding R104, R105, R106, R111). -/

namespace Sys2Proof

/-- Two rows that one byte matches have codes that agree under both masks. -/
theorem OpcodeRow.codes_agree {r₁ r₂ : OpcodeRow} {b : Byte} (h₁ : r₁.matches b = true)
    (h₂ : r₂.matches b = true) : r₁.code &&& r₂.mask = r₂.code &&& r₁.mask := by
  simp only [OpcodeRow.matches, beq_iff_eq] at h₁ h₂
  rw [← h₁, ← h₂, BitVec.and_assoc, BitVec.and_assoc, BitVec.and_comm r₁.mask]

/-- Every register is listed. -/
theorem Reg.mem_all (r : Reg) : r ∈ Reg.all := by cases r <;> decide

/-- In a value set that can be read back, a byte that an opcode's row matches is read as that opcode. -/
theorem opcodeOf?_of_matches {p : Params} (h : p.Unambiguous) {b : Byte} {op : Opcode}
    (hm : (op.row p.cmd).matches b = true) : opcodeOf? p.cmd b = some op := by
  have hmem : op.row p.cmd ∈ opcodeTable p.cmd := List.mem_map_of_mem (by cases op <;> decide)
  cases hf : (opcodeTable p.cmd).find? fun r => r.matches b with
  | none => exact absurd hm (List.find?_eq_none.mp hf _ hmem)
  | some r =>
    have hrb : r.matches b = true := List.find?_some (p := fun r : OpcodeRow => r.matches b) hf
    have hr := h.1 b r (List.mem_of_find?_eq_some hf) _ hmem hrb hm
    simp only [opcodeOf?, hf, hr, Option.map_some, Opcode.row]

/-- A byte of format F is matched by its own row (30_encoding R103). -/
theorem Opcode.row_matches_code (c : CommandSet) (op : Opcode) (hm : op.mask = 0xFF) :
    (op.row c).matches (op.code c) = true := by
  simp only [OpcodeRow.matches, Opcode.row, hm, show (0xFF : Byte) = BitVec.allOnes 8 from rfl,
    BitVec.and_allOnes, beq_self_eq_true]

/-- A composed register access is matched by the row of its kind (30_encoding R105). -/
theorem row_matches_composeCommand (c : CommandSet) (m : RegisterMap) (r : Reg) :
    (Opcode.row c .read).matches (composeCommand m r .read) = true ∧
    (Opcode.row c .write).matches (composeCommand m r .write) = true := by
  unfold OpcodeRow.matches composeCommand
  generalize r.addr m = a
  revert a
  change ∀ a : BitVec 5,
    ((AccessKind.read.code ||| a.setWidth 8) &&& 0xE0 == AccessKind.read.code) = true ∧
    ((AccessKind.write.code ||| a.setWidth 8) &&& 0xE0 == AccessKind.write.code) = true
  decide

/-- A composed acknowledgment command is matched by its row (30_encoding R106). -/
theorem row_matches_composeAckCommand (c : CommandSet) (q : Pipe) :
    (Opcode.row c .writeAckPayload).matches (composeAckCommand c q) = true := by
  change ((c.writeAckPayload.setWidth 8 <<< 3 ||| q.index.setWidth 8) &&& 0xF8 ==
    c.writeAckPayload.setWidth 8 <<< 3) = true
  generalize c.writeAckPayload = tag
  revert tag
  cases q <;> decide

end Sys2Proof

namespace Sys2Proof.Laws.CommandByte

/-- In every value set that can be read back, the first row the command byte matches is the command's. -/
def Statement (i : Instr) : Prop :=
  ∀ p : Params, p.Unambiguous → opcodeOf? p.cmd (commandByte p i) = some i.opcode

theorem read (r : Reg) (n : Nat) : Statement (.read r n) :=
  fun _ h => opcodeOf?_of_matches h (row_matches_composeCommand _ _ r).1

theorem write (r : Reg) (v : List Byte) : Statement (.write r v) :=
  fun _ h => opcodeOf?_of_matches h (row_matches_composeCommand _ _ r).2

theorem readPayload (n : Nat) : Statement (.readPayload n) :=
  fun _ h => opcodeOf?_of_matches h (Opcode.row_matches_code _ _ rfl)

theorem writePayload (p : List Byte) : Statement (.writePayload p) :=
  fun _ h => opcodeOf?_of_matches h (Opcode.row_matches_code _ _ rfl)

theorem writePayloadNoAck (p : List Byte) : Statement (.writePayloadNoAck p) :=
  fun _ h => opcodeOf?_of_matches h (Opcode.row_matches_code _ _ rfl)

theorem writeAckPayload (pipe : Pipe) (p : List Byte) : Statement (.writeAckPayload pipe p) :=
  fun _ h => opcodeOf?_of_matches h (row_matches_composeAckCommand _ pipe)

theorem flushTx : Statement .flushTx :=
  fun _ h => opcodeOf?_of_matches h (Opcode.row_matches_code _ _ rfl)

theorem flushRx : Statement .flushRx :=
  fun _ h => opcodeOf?_of_matches h (Opcode.row_matches_code _ _ rfl)

theorem reuseTxPayload : Statement .reuseTxPayload :=
  fun _ h => opcodeOf?_of_matches h (Opcode.row_matches_code _ _ rfl)

theorem readPayloadWidth : Statement .readPayloadWidth :=
  fun _ h => opcodeOf?_of_matches h (Opcode.row_matches_code _ _ rfl)

theorem nop : Statement .nop :=
  fun _ h => opcodeOf?_of_matches h (Opcode.row_matches_code _ _ rfl)

end Sys2Proof.Laws.CommandByte
end

