-- ==== Sys2Proof/Laws/Step.lean ====
section
/-! SUPPORT. What exec and step can do, said once: exec is one transaction, and a step is an update, or a
transaction that stops, ends its operation with IO_ERROR, or completes. -/

namespace Sys2Proof.Machine

/-! ## exec -/

/-- Execute's `kind` and `arg` for a command (41_channel R180; 40_commands). -/
def transferOf : Instr → Transfer
  | .read _ n => .read n
  | .write _ v => .write v
  | .readPayload n => .read n
  | .writePayload p => .write p
  | .writePayloadNoAck p => .write p
  | .writeAckPayload _ p => .write p
  | .flushTx => .command
  | .flushRx => .command
  | .reuseTxPayload => .command
  | .readPayloadWidth => .read 1
  | .nop => .command

/-- Every command is one transaction of its command byte (40_commands, introduction). -/
theorem exec_eq_transact (i : Instr) (s : State) :
    exec i s = .next (s.transact (commandByte s.params i) (transferOf i)) := by
  cases i <;> rfl

/-- What the transaction sends is the command's data block (30_encoding R108). -/
theorem transferOf_sent (p : Params) (i : Instr) : (transferOf i).sent (filler p) = dataBlock p i := by
  cases i <;> rfl

/-- The READ tag adds nothing to the address (30_encoding R105). -/
theorem composeCommand_read (m : RegisterMap) (r : Reg) : composeCommand m r .read = (r.addr m).setWidth 8 :=
  BitVec.zero_or

theorem composeCommand_write (m : RegisterMap) (r : Reg) :
    composeCommand m r .write = 0x20 ||| (r.addr m).setWidth 8 := rfl

/-- A command begun with CSN 1, the link answering, completes (41_channel R182). -/
theorem exec_completes {i : Instr} {s : State} (hc : s.csn = true)
    (h : s.exchangesSucceed (exchangeCount (dataBlock s.params i))) :
    exec i s = .next (s.completed (commandByte s.params i) (dataBlock s.params i) (transferOf i).isRead) := by
  rw [exec_eq_transact, State.transact_ok _ _ _ hc (by rwa [transferOf_sent]), transferOf_sent]

/-- What a completed READ of one byte leaves. -/
theorem completed_read (s : State) (r : Reg) :
    s.completed (commandByte s.params (.read r 1)) (dataBlock s.params (.read r 1)) (transferOf (.read r 1)).isRead =
      s.completedRead (r.addr s.params.reg) := by
  simp only [commandByte, composeCommand_read]
  rfl

/-- What a completed WRITE leaves. -/
theorem completed_write (s : State) (r : Reg) (v : List Byte) :
    s.completed (commandByte s.params (.write r v)) (dataBlock s.params (.write r v))
      (transferOf (.write r v)).isRead = s.completedWrite (r.addr s.params.reg) v := rfl

/-- The byte a completed READ of one byte hands on. -/
theorem completedRead_rxByte (s : State) (a : BitVec 5) : (s.completedRead a).rxByte = s.nextByte := rfl

/-- A window makes at most two calls of the duplex primitive (41_channel R192). -/
theorem exchangeCount_le (l : List Byte) : exchangeCount l ≤ 2 := by
  unfold exchangeCount
  split <;> omega

theorem State.exchangesSucceed.mono {s : State} {k k' : Nat} (h : s.exchangesSucceed k) (hk : k' ≤ k) :
    s.exchangesSucceed k' :=
  fun i hi => h i (by omega)

/-! ## After a transaction -/

theorem resume_of_busy {s : State} {b : Busy} (h : s.phase = .busy b) : resume s = busyResume b s := by
  simp [resume, h]

theorem resume_of_not_busy {s : State} (h : ∀ b, s.phase ≠ .busy b) : resume s = s := by
  unfold resume
  split <;> simp_all

/-- No error leaves the block running (60_exceptions R372). -/
theorem Phase.afterError_ne_busy (p : Phase) (b : Busy) : p.afterError ≠ .busy b := by
  cases p with
  | busy b => cases b <;> simp [Phase.afterError]
  | _ => simp [Phase.afterError]

theorem State.completed_phase (s : State) (cmd : Byte) (sent : List Byte) (reading : Bool) :
    (s.completed cmd sent reading).phase = s.phase := rfl

/-! ## The step -/

/-- A running operation's transaction is asked on the state as it is. -/
theorem busyMicro_command {b : Busy} {s s₁ : State} {i : Instr} (h : busyMicro b s = .command i s₁) :
    s₁ = s := by
  unfold busyMicro initMicro transmitMicro receiveMicro at h
  repeat' (split at h)
  all_goals simp_all

/-- Everything a step that answers a next state can be: an update, or the transaction of a command, which begun
with CSN 0 stops the block, fails and ends the operation, or completes and lets the operation go on. -/
theorem step_cases {s t : State} (h : step s = .next t) :
    nextMicro s = .update t ∨
    ∃ i s₁, nextMicro s = .command i s₁ ∧
      ((s₁.csn = false ∧ t = { s₁ with phase := .faulted .nestedTransaction }) ∨
        (s₁.csn = true ∧ ∃ m f md fd tr ls rx, t = { s₁ with
          env := { s₁.env with miso := m, failures := f, misoDrawn := md, failuresDrawn := fd }
          trace := tr
          lastStatus := ls
          rxData := rx
          initialized := s₁.initialized && !s₁.phase.isInit
          phase := s₁.phase.afterError
          results := .error .ioError :: s₁.results }) ∨
        (s₁.csn = true ∧
          t = resume (s₁.completed (commandByte s₁.params i) (dataBlock s₁.params i) (transferOf i).isRead))) := by
  unfold step at h
  cases hm : nextMicro s with
  | update t' => simp_all
  | fault f => simp_all
  | refuse r => simp_all
  | command i s₁ =>
    simp only [hm, exec_eq_transact] at h
    cases h
    refine .inr ⟨i, s₁, rfl, ?_⟩
    obtain ⟨hc, he⟩ | ⟨hc, m, f, md, fd, tr, ls, rx, he⟩ | ⟨hc, he⟩ :=
      s₁.transact_cases (commandByte s₁.params i) (transferOf i)
    · exact .inl ⟨hc, by rw [he, resume_of_not_busy (by simp)]⟩
    · exact .inr (.inl ⟨hc, m, f, md, fd, tr, ls, rx,
        by rw [he, resume_of_not_busy (fun b => Phase.afterError_ne_busy _ b)]⟩)
    · exact .inr (.inr ⟨hc, by rw [he, transferOf_sent]⟩)

/-- A running operation's update is the step. -/
theorem step_of_update {s t : State} {b : Busy} (hp : s.phase = .busy b) (hm : busyMicro b s = .update t) :
    step s = .next t := by
  simp [step, nextMicro, hp, hm]

/-- A running operation's transaction begun with CSN 1, the link answering, is the completed window, and the operation
goes on. -/
theorem step_completes {s : State} {b : Busy} {i : Instr} (hp : s.phase = .busy b)
    (hm : busyMicro b s = .command i s) (hc : s.csn = true)
    (h : s.exchangesSucceed (exchangeCount (dataBlock s.params i))) :
    step s = .next (busyResume b
      (s.completed (commandByte s.params i) (dataBlock s.params i) (transferOf i).isRead)) := by
  simp only [step, nextMicro, hp, hm, exec_completes hc h]
  rw [resume_of_busy (by exact hp)]

/-- At rest, with no transaction asked of the channel, the step takes the host's next operation. -/
theorem step_of_accept {s t : State} {op : HostOp} {ops : List HostOp} (hr : s.resting)
    (hc : s.channelCall = none) (hq : s.requests = op :: ops)
    (ha : accept op (s.setRequests ops) = .update t) : step s = .next t := by
  obtain hp | hp := hr <;> simp [step, nextMicro, hp, restMicro, hc, hq, ha]

/-- A step faults only from FAULTED, with its code (60_exceptions R373, R386). -/
theorem step_fault {s : State} {f : Fault} (h : step s = .fault f) :
    ∃ c, s.phase = .faulted c ∧ f = .stopped c := by
  have noMicro : nextMicro s = .fault f := by
    unfold step at h
    cases hm : nextMicro s <;> simp_all [exec_eq_transact]
  have atRest : restMicro s ≠ .fault f := by
    unfold restMicro accept whenInitialized whenAdmitted
    repeat' split
    all_goals simp
  have running (b : Busy) : busyMicro b s ≠ .fault f := by
    unfold busyMicro initMicro transmitMicro receiveMicro
    repeat' split
    all_goals simp
  unfold nextMicro at noMicro
  split at noMicro
  · exact absurd noMicro atRest
  · exact absurd noMicro atRest
  · next b hp => exact absurd noMicro (running b)
  · next c hp =>
    cases noMicro
    exact ⟨c, hp, rfl⟩

/-! ## Operand checks -/

theorem payloadAdmitted_iff (p : List Byte) : payloadAdmitted p = true ↔ 1 ≤ p.length ∧ p.length ≤ 32 := by
  rw [payloadAdmitted, payloadAdmits, Bool.and_eq_true, decide_eq_true_iff, decide_eq_true_iff]
  rfl

theorem frequencyAdmitted_iff (mhz : Nat) : frequencyAdmitted mhz = true ↔ 2400 ≤ mhz ∧ mhz ≤ 2527 := by
  simp [frequencyAdmitted]

/-! ## The receive procedure -/

/-- Everything a known width leads to (44_receive_and_queries R302, R303). -/
theorem widthKnown_cases (wrap : ReceiveStep → Busy) (done : State → State) (w : Nat) (s : State) :
    (w = 0 ∧ widthKnown wrap done w s = done (s.setAckLen 0)) ∨
    (w > 32 ∧ widthKnown wrap done w s = s.stop (.widthOutOfRange w)) ∨
    (1 ≤ w ∧ w ≤ 32 ∧ widthKnown wrap done w s = s.setPhase (.busy (wrap (.payload w)))) := by
  unfold widthKnown
  split
  · simp_all
  · split
    · simp_all
    · refine .inr (.inr ⟨by omega, by omega, rfl⟩)

/-! ## The host port -/

theorem whenInitialized_cases {s t : State} {k : Micro} (h : whenInitialized s k = .update t) :
    (s.initialized = false ∧ t = s.raise .notInitialized) ∨ (s.initialized = true ∧ k = .update t) := by
  unfold whenInitialized at h
  split at h <;> simp_all

theorem whenAdmitted_cases {s t : State} {k : Micro} {ok : Bool} {e : OpError}
    (h : whenAdmitted ok e s k = .update t) : (ok = false ∧ t = s.raise e) ∨ (ok = true ∧ k = .update t) := by
  unfold whenAdmitted at h
  split at h <;> simp_all

/-- The micro-step a host operation other than INITIALIZE starts at. -/
def Busy.isStart : Busy → Bool
  | .init _ => false
  | .transmit st => st == .loaded
  | .receive st => st == .status
  | .ackFlush _ => true
  | .ackPreload _ => false
  | .query _ => true
  | .setFrequency _ => true

/-- Everything taking a host operation at rest can do: return a result or an error, latch INITIALIZE's
configuration, or start another operation of an initialized block (60_exceptions R371). -/
theorem accept_cases {op : HostOp} {s t : State} (hr : s.resting) (h : accept op s = .update t) :
    (∃ r, t = s.pushResult r) ∨
    (∃ c, op = .init c ∧ configAdmitted c = true ∧ t = s.latchConfig c) ∨
    (s.initialized = true ∧ ∃ b p a o, b.isStart = true ∧
      t = { s with phase := .busy b, txPayload := p, txAck := a, txTimeout := o }) := by
  cases op with
  | init c =>
    obtain ⟨-, rfl⟩ | ⟨hc, hk⟩ := whenAdmitted_cases h
    · exact .inl ⟨_, s.raise_resting _ hr⟩
    · cases hk
      exact .inr (.inl ⟨c, rfl, hc, rfl⟩)
  | getLinkStats =>
    cases h
    exact .inl ⟨_, rfl⟩
  | transmit p a o =>
    obtain ⟨-, rfl⟩ | ⟨hi, hk⟩ := whenInitialized_cases h
    · exact .inl ⟨_, s.raise_resting _ hr⟩
    obtain ⟨-, rfl⟩ | ⟨-, hk⟩ := whenAdmitted_cases hk
    · exact .inl ⟨_, s.raise_resting _ hr⟩
    cases hk
    exact .inr (.inr ⟨hi, .transmit .loaded, _, _, _, rfl, rfl⟩)
  | writeAckPayload p =>
    obtain ⟨-, rfl⟩ | ⟨hi, hk⟩ := whenInitialized_cases h
    · exact .inl ⟨_, s.raise_resting _ hr⟩
    obtain ⟨-, rfl⟩ | ⟨-, hk⟩ := whenAdmitted_cases hk
    · exact .inl ⟨_, s.raise_resting _ hr⟩
    cases hk
    exact .inr (.inr ⟨hi, .ackFlush p, _, _, _, rfl, rfl⟩)
  | setFrequency mhz =>
    obtain ⟨-, rfl⟩ | ⟨hi, hk⟩ := whenInitialized_cases h
    · exact .inl ⟨_, s.raise_resting _ hr⟩
    obtain ⟨-, rfl⟩ | ⟨-, hk⟩ := whenAdmitted_cases hk
    · exact .inl ⟨_, s.raise_resting _ hr⟩
    cases hk
    exact .inr (.inr ⟨hi, .setFrequency mhz, _, _, _, rfl, rfl⟩)
  | _ =>
    obtain ⟨-, rfl⟩ | ⟨hi, hk⟩ := whenInitialized_cases h
    · exact .inl ⟨_, s.raise_resting _ hr⟩
    cases hk
    exact .inr (.inr ⟨hi, _, _, _, _, rfl, rfl⟩)

/-- Everything an update can be: the wait of a block at rest, the taking of a host operation, or a running
operation's own update. -/
theorem nextMicro_update {s t : State} (h : nextMicro s = .update t) :
    (s.resting ∧ s.channelCall = none ∧ s.requests = [] ∧ t = s) ∨
    (s.resting ∧ s.channelCall = none ∧ ∃ op ops, s.requests = op :: ops ∧
      accept op (s.setRequests ops) = .update t) ∨
    ∃ b, s.phase = .busy b ∧ busyMicro b s = .update t := by
  have atRest : s.resting → restMicro s = .update t →
      (s.resting ∧ s.channelCall = none ∧ s.requests = [] ∧ t = s) ∨
      (s.resting ∧ s.channelCall = none ∧ ∃ op ops, s.requests = op :: ops ∧
        accept op (s.setRequests ops) = .update t) := by
    intro hr hm
    unfold restMicro at hm
    repeat' (split at hm)
    all_goals simp_all
  unfold nextMicro at h
  split at h
  · next hp => exact (atRest (.inl hp) h).imp_right .inl
  · next hp => exact (atRest (.inr hp) h).imp_right .inl
  · next b hp => exact .inr (.inr ⟨b, hp, h⟩)
  · simp at h

/-- Everything a command can come from: the channel's own port at rest, or a running operation. -/
theorem nextMicro_command {s s₁ : State} {i : Instr} (h : nextMicro s = .command i s₁) :
    (s.resting ∧ s₁ = s.setChannelCall none ∧ ∃ w, s.channelCall = some w ∧ decode s.params w = .ok i) ∨
    ∃ b, s.phase = .busy b ∧ busyMicro b s = .command i s ∧ s₁ = s := by
  have atRest : restMicro s = .command i s₁ →
      s₁ = s.setChannelCall none ∧ ∃ w, s.channelCall = some w ∧ decode s.params w = .ok i := by
    unfold restMicro accept whenInitialized whenAdmitted
    intro hm
    repeat' (split at hm)
    all_goals simp_all
  unfold nextMicro at h
  split at h
  · next hp => exact .inl ⟨.inl hp, atRest h⟩
  · next hp => exact .inl ⟨.inr hp, atRest h⟩
  · next b hp =>
    have hs := busyMicro_command h
    subst hs
    exact .inr ⟨b, hp, h, rfl⟩
  · simp at h

end Sys2Proof.Machine
end

