-- ==== Sys2Proof/Tests/Slice0.lean ====
section
/-! SUPPORT. Tests: words written out from the spec's encodings, small steps whose expected results are the vectors of
95_test_vectors, and for every obligation with hypotheses a state and operands that meet them. -/

namespace Sys2Proof.Tests

open Sys2Proof.Machine

/-! ## Small states -/

/-- CFG_A of 42_configuration. -/
def cfgA : RadioConfiguration where
  mode := .transmitter
  crcWidth := 2
  irqMask := 0
  powerUp := true
  autoAckMask := 1
  retransmitDelay := 1
  retransmitCount := 3
  channel := 76
  dataRate := .rate1M
  outputPower := 3
  continuousWave := false
  addressWidth := 3
  address := [0xE7, 0xE7, 0xE7, 0xE7, 0xE7]
  staticPayloadWidth := 32
  dynamicPayload := true
  ackPayload := true
  dynamicAck := true
  txReuse := false
  txTimeoutUs := 7000

/-- CFG_A with every bounded field at its greatest value. -/
def cfgMax : RadioConfiguration :=
  { cfgA with
    mode := .receiver, irqMask := 7, autoAckMask := 63, retransmitDelay := 15, retransmitCount := 15
    channel := 127, dataRate := .rate2M, continuousWave := true, txReuse := true, dynamicPayload := false }

/-- CFG_A with every bounded field at its least value. -/
def cfgMin : RadioConfiguration :=
  { cfgA with
    crcWidth := 0, autoAckMask := 0, retransmitDelay := 0, retransmitCount := 0, channel := 0
    dataRate := .rate250K, outputPower := 0, addressWidth := 1, address := [0xA1, 0xA2, 0xA3]
    staticPayloadWidth := 0, dynamicPayload := false, ackPayload := false, dynamicAck := false }

/-- An initialized block in a phase, the link answering, the chip answering these bytes, the next clock reading
at 100. -/
def ready (p : Phase) (miso : List Byte) : State :=
  { State.reset with
    phase := p, initialized := true, cfg := some cfgA
    env := { Env.start with miso := miso, failures := [false, false], ticks := [100] } }

/-- The same with another configuration. -/
def readyFor (c : RadioConfiguration) (p : Phase) (miso : List Byte) : State :=
  { ready p miso with cfg := some c }

/-- The same at rest with an operation asked. -/
def asked (op : HostOp) : State := { ready .idle [] with requests := [op] }

/-- A block never initialized with an operation asked. -/
def askedAtReset (op : HostOp) : State := { State.reset with requests := [op] }

/-- The same with calls of the duplex primitive that fail as listed. -/
def failing (p : Phase) (failures : List Bool) : State :=
  { ready p [0x0E] with env := { Env.start with miso := [0x0E], failures := failures } }

/-- A field of the state a step or a command answers. -/
def after {α : Type} (o : Host.Outcome State Fault Refusal) (f : State → α) : Option α :=
  match o with
  | .next t => some (f t)
  | .fault _ => none
  | .refused _ => none

theorem ready_link (p : Phase) (miso : List Byte) : (ready p miso).exchangesSucceed 2 := by
  intro i hi
  obtain rfl | rfl : i = 0 ∨ i = 1 := by omega
  all_goals rfl

theorem readyFor_link (c : RadioConfiguration) (p : Phase) (miso : List Byte) :
    (readyFor c p miso).exchangesSucceed 2 :=
  ready_link p miso

/-! ## Well-formedness: an ill-formed term for each check -/

theorem test_wf_read_size : WellFormed (.read .config 2) = false ∧ WellFormed (.read .config 0) = false := by decide
theorem test_wf_read_address_size :
    WellFormed (.read .rxAddrP0 6) = false ∧ WellFormed (.read .rxAddrP0 2) = false ∧
    WellFormed (.read .rxAddrP1 2) = false := by decide
theorem test_wf_write_size : WellFormed (.write .rfCh []) = false := by decide
theorem test_wf_write_address_size : WellFormed (.write .txAddr [0xE7, 0xE7]) = false := by decide
theorem test_wf_readPayload : WellFormed (.readPayload 0) = false ∧ WellFormed (.readPayload 33) = false := by decide
theorem test_wf_writePayload : WellFormed (.writePayload []) = false := by decide
theorem test_wf_writePayload_long : WellFormed (.writePayload (List.replicate 33 0)) = false := by decide
theorem test_wf_writePayloadNoAck : WellFormed (.writePayloadNoAck (List.replicate 33 0)) = false := by decide
theorem test_wf_writeAckPayload : WellFormed (.writeAckPayload .p5 []) = false := by decide
theorem test_wf_longest : WellFormed (.writeAckPayload .p5 (List.replicate 32 0)) = true := by decide

/-! ## Decoding: words bit by bit from 30_encoding R104's table -/

/-- `000aaaaa`, RPD at 0x09. -/
theorem test_decode_read : decode .default [0b00001001, 0xFF] = .ok (.read .rpd 1) := by decide
/-- `001aaaaa`, TX_ADDR at 0x10, aw = 1 (V-C5). -/
theorem test_decode_write : decode .default [0b00110000, 0xA1, 0xA2, 0xA3] = .ok (.write .txAddr [0xA1, 0xA2, 0xA3]) := by
  decide
theorem test_decode_readPayload : decode .default [0b01100001, 0xFF, 0xFF] = .ok (.readPayload 2) := by decide
theorem test_decode_writePayload : decode .default [0b10100000, 0x11] = .ok (.writePayload [0x11]) := by decide
theorem test_decode_writePayloadNoAck : decode .default [0b10110000, 0x42] = .ok (.writePayloadNoAck [0x42]) := by decide
/-- `10101ppp`, pipe 5. -/
theorem test_decode_writeAckPayload : decode .default [0b10101101, 0x01] = .ok (.writeAckPayload .p5 [0x01]) := by decide
theorem test_decode_flushTx : decode .default [0b11100001] = .ok .flushTx := by decide
theorem test_decode_flushRx : decode .default [0b11100010] = .ok .flushRx := by decide
theorem test_decode_reuseTxPayload : decode .default [0b11100011] = .ok .reuseTxPayload := by decide
theorem test_decode_readPayloadWidth : decode .default [0b01100000, 0xFF] = .ok .readPayloadWidth := by decide
theorem test_decode_nop : decode .default [0b11111111] = .ok .nop := by decide

/-- The addresses on both sides of the gaps of 20_memory R63's map. -/
theorem test_decode_gap_edges :
    decode .default [0x17, 0xFF] = .ok (.read .fifoStatus 1) ∧
    decode .default [0x18, 0xFF] = .error (.unnamedRegister 0x18) ∧
    decode .default [0x1B, 0xFF] = .error (.unnamedRegister 0x1B) ∧
    decode .default [0x1C, 0xFF] = .ok (.read .dynpd 1) ∧
    decode .default [0x3E, 0xFF] = .error (.unnamedRegister 0x1E) ∧
    decode .default [0x3F, 0xFF] = .error (.unnamedRegister 0x1F) := by
  decide
/-- V-E2 and V-E4. -/
theorem test_decode_refused :
    decode .default [0xAE, 0x01] = .error (.pipeRefused 6) ∧ decode .default [0xAF, 0x01] = .error (.pipeRefused 7) ∧
    decode .default [0x50] = .error (.unknownCommand 0x50) ∧ decode .default [] = .error .emptyWindow := by decide
theorem test_decode_lengths :
    decode .default [0xE1, 0x00] = .error (.wrongLength 0xE1 1) ∧
    decode .default [0x60] = .error (.wrongLength 0x60 0) ∧
    decode .default [0x61] = .error (.wrongLength 0x61 0) ∧
    decode .default [0x20, 0x0E, 0x00] = .error (.wrongLength 0x20 2) := by
  decide
/-- V-E5. -/
theorem test_encode_lengths :
    (encode .default (.read .feature 1)).length = 2 ∧ (encode .default (.write .txAddr [1, 2, 3, 4, 5])).length = 6 ∧
    (encode .default (.writePayload (List.replicate 32 0))).length = 33 ∧
    (encode .default (.readPayload 7)).length = 8 ∧
    (encode .default .flushTx).length = 1 := by decide

/-! ## Another value set -/

/-- The spec's parameters with another NOP byte, another acknowledgment tag, FEATURE and DYNPD at each other's
address, and the status flags one place lower. -/
def otherValues : Params :=
  { Params.default with
    cmd := { CommandSet.default with nop := 0x7F, writeAckPayload := 0b11000 }
    reg := { RegisterMap.default with feature := 0x1C, dynpd := 0x1D }
    bits := { FieldPositions.default with
      statusDataReady := 5, statusDataSent := 4, statusMaxRetransmit := 3, statusPipe := 0, statusTxFull := 7 } }

/-- It can be read back. -/
theorem otherValues_unambiguous : otherValues.Unambiguous :=
  ⟨fun b r₁ h₁ r₂ h₂ m₁ m₂ => by
    have hc : ∀ r₁ ∈ opcodeTable otherValues.cmd, ∀ r₂ ∈ opcodeTable otherValues.cmd,
        r₁.code &&& r₂.mask = r₂.code &&& r₁.mask → r₁ = r₂ := by decide
    exact hc r₁ h₁ r₂ h₂ (OpcodeRow.codes_agree m₁ m₂),
  fun r₁ r₂ h => by
    have hr : ∀ r₁ ∈ Reg.all, ∀ r₂ ∈ Reg.all, r₁.addr otherValues.reg = r₂.addr otherValues.reg → r₁ = r₂ := by
      decide
    exact hr r₁ (Reg.mem_all r₁) r₂ (Reg.mem_all r₂) h⟩
theorem test_other_values :
    encode otherValues (.read .feature 1) = [0x1C, 0x7F] ∧
    encode otherValues (.writeAckPayload .p2 [0x55]) = [0xC2, 0x55] ∧
    decode otherValues [0x1D, 0xFF] = .ok (.read .dynpd 1) ∧
    decode otherValues [0xA8, 0x55] = .error (.unknownCommand 0xA8) ∧
    decodeStatus otherValues.bits 0x20 = ⟨⟨true, false, false⟩, 0, false⟩ ∧ clearValue otherValues.bits = 0x38 := by
  decide
/-- The step of a block with these values sends them. -/
theorem test_other_values_step :
    after (step { ready (.busy (.init .testRead)) [0x0E, 0x07] with params := otherValues })
      (fun t => sentBytes t.trace) = some [0x1C, 0x7F] := by decide

/-! ## The commands, one step each -/

/-- V-T1: the block of a write goes out after the command byte, what comes back is discarded. -/
theorem test_write_sends :
    after (exec (.write .rfCh [0x32]) (ready .idle [0x0E, 0x77])) (fun t => (t.trace, t.lastStatus, t.rxData)) =
      some ([.pin .csn true, .exchange [0x32] (some [0x77]), .exchange [0x25] (some [0x0E]), .pin .csn false],
        some 0x0E, []) := by decide
/-- V-T2. -/
theorem test_readPayload_captures :
    after (exec (.readPayload 3) (ready .idle [0x40, 1, 2, 3])) (fun t => (t.trace, t.lastStatus, t.rxData)) =
      some ([.pin .csn true, .exchange [0xFF, 0xFF, 0xFF] (some [1, 2, 3]), .exchange [0x61] (some [0x40]),
        .pin .csn false], some 0x40, [1, 2, 3]) := by decide
/-- V-T3. -/
theorem test_flushTx_alone :
    after (exec .flushTx (ready .idle [0x0E])) (fun t => (t.trace, t.lastStatus)) =
      some ([.pin .csn true, .exchange [0xE1] (some [0x0E]), .pin .csn false], some 0x0E) := by decide
theorem test_read_captures :
    after (exec (.read .feature 1) (ready .idle [0x0E, 0x07])) (fun t => (t.rxData, sentBytes t.trace)) =
      some ([0x07], [0x1D, 0xFF]) := by decide
theorem test_writePayload_sends :
    after (exec (.writePayload [0x11, 0x22, 0x33]) (ready .idle [0x0E, 0, 0, 0])) (fun t => sentBytes t.trace) =
      some [0xA0, 0x11, 0x22, 0x33] := by decide
theorem test_writePayloadNoAck_sends :
    after (exec (.writePayloadNoAck [0x42]) (ready .idle [0x0E, 0])) (fun t => sentBytes t.trace) =
      some [0xB0, 0x42] := by decide
theorem test_writeAckPayload_sends :
    after (exec (.writeAckPayload .p3 [0x01]) (ready .idle [0x0E, 0])) (fun t => sentBytes t.trace) =
      some [0xAB, 0x01] := by decide
theorem test_flushRx_sends :
    after (exec .flushRx (ready .idle [0x0E])) (fun t => sentBytes t.trace) = some [0xE2] := by decide
theorem test_reuseTxPayload_sends :
    after (exec .reuseTxPayload (ready .idle [0x0E])) (fun t => sentBytes t.trace) = some [0xE3] := by decide
theorem test_readPayloadWidth_captures :
    after (exec .readPayloadWidth (ready .idle [0x40, 0x20])) (fun t => (t.rxData, sentBytes t.trace)) =
      some ([0x20], [0x60, 0xFF]) := by decide
theorem test_nop_status :
    after (exec .nop (ready .idle [0x2E])) (fun t => (t.lastStatus, sentBytes t.trace)) =
      some (some 0x2E, [0xFF]) := by decide

/-- V-T4: the status latch keeps its byte. -/
theorem test_command_byte_fails :
    after (exec (.read .status 1) (failing .idle [true]))
      (fun t => (t.csn, t.lastStatus, t.results, t.phase)) =
      some (true, none, [.error .ioError], .idle) := by decide
/-- V-T5: the status latch holds the byte of the command byte's exchange. -/
theorem test_data_block_fails :
    after (exec (.read .feature 1) (failing .idle [false, true]))
      (fun t => (t.csn, t.lastStatus, t.results)) = some (true, some 0x0E, [.error .ioError]) := by decide
/-- V-T6. -/
theorem test_nested :
    after (exec .nop { ready .idle [] with csn := false }) (fun t => (t.phase, t.trace)) =
      some (.faulted .nestedTransaction, []) := by decide

/-! ## The opcode table's words -/

/-- Bits 7..0 the command byte, bits 15..8 the data byte, then zeros up to the least length. -/
theorem test_table_word :
    decodeTableWord 8 0x25 = some (.write .rfCh [0]) ∧ decodeTableWord 16 0x3225 = some (.write .rfCh [0x32]) ∧
    decodeTableWord 8 0x30 = some (.write .txAddr [0, 0, 0]) ∧ decodeTableWord 8 0x61 = some (.readPayload 1) ∧
    decodeTableWord 8 0xAD = some (.writeAckPayload .p5 [0]) ∧ decodeTableWord 8 0x50 = none := by decide
/-- The step runs the placed word from reset, the link answering. -/
theorem test_placed_word :
    after (step ({ State.reset with env := (ready .idle [0x0E]).env }.withFetchWord 8 0xE2))
      (fun t => (sentBytes t.trace, t.lastStatus)) = some ([0xE2], some 0x0E) := by decide

/-! ## Register values -/

/-- V-C1. -/
theorem test_cfgA_values :
    CfgReg.listedOrder.map (CfgReg.value .default cfgA) =
      [[0x0E], [0x01], [0x01], [0x03], [0x13], [0x4C], [0x06], [0xE7, 0xE7, 0xE7, 0xE7, 0xE7],
        [0xE7, 0xE7, 0xE7, 0xE7, 0xE7], [0x20], [0x01], [0x07]] := by decide
/-- V-C2. -/
theorem test_config_variants :
    configValue .default { cfgA with mode := .receiver } = 0x0F ∧
    configValue .default { cfgA with crcWidth := 0 } = 0x02 ∧
    configValue .default { cfgA with crcWidth := 1 } = 0x0A ∧
    configValue .default { cfgA with powerUp := false } = 0x0C ∧
    configValue .default { cfgA with irqMask := 0b111 } = 0x7E ∧
    configValue .default { cfgA with irqMask := 0b100, mode := .receiver } = 0x4F := by decide
/-- V-C3. -/
theorem test_rfSetup_variants :
    rfSetupValue .default { cfgA with dataRate := .rate2M } = 0x0E ∧
    rfSetupValue .default { cfgA with dataRate := .rate250K, outputPower := 0 } = 0x20 ∧
    rfSetupValue .default { cfgA with dataRate := .rate250K } = 0x26 ∧
    rfSetupValue .default { cfgA with continuousWave := true } = 0x86 ∧
    rfSetupValue .default { cfgA with outputPower := 0 } = 0x00 := by decide
/-- V-C4. -/
theorem test_setupRetr_variants :
    setupRetrValue .default { cfgA with retransmitDelay := 0, retransmitCount := 0 } = 0x00 ∧
    setupRetrValue .default { cfgA with retransmitDelay := 15, retransmitCount := 15 } = 0xFF ∧
    setupRetrValue .default { cfgA with retransmitDelay := 5, retransmitCount := 7 } = 0x57 := by decide
/-- V-C6. -/
theorem test_feature_variants :
    featureValue { cfgA with dynamicPayload := false, ackPayload := false, dynamicAck := false } = 0x00 ∧
    featureValue { cfgA with ackPayload := false, dynamicAck := false } = 0x04 ∧
    featureValue { cfgA with dynamicPayload := false, ackPayload := false } = 0x01 ∧
    featureValue { cfgA with dynamicAck := false } = 0x06 ∧
    dynpdValue .default { cfgA with dynamicPayload := false } = 0x00 := by decide
/-- V-C7. -/
theorem test_ill_formed_configurations :
    [{ cfgA with address := [1, 2, 3, 4] }, { cfgA with channel := 128 },
      { cfgA with staticPayloadWidth := 33 }, { cfgA with crcWidth := 3 }, { cfgA with retransmitCount := 16 },
      { cfgA with addressWidth := 0 }].map configAdmitted = List.replicate 6 false := by decide

/-! ## Decodings -/

/-- V-S1. -/
theorem test_status_decoding :
    decodeStatus .default 0x0C = ⟨⟨false, false, false⟩, 6, false⟩ ∧
    decodeStatus .default 0x0A = ⟨⟨false, false, false⟩, 5, false⟩ ∧
    decodeStatus .default 0x01 = ⟨⟨false, false, false⟩, 0, true⟩ ∧
    decodeStatus .default 0x2E = ⟨⟨false, true, false⟩, 7, false⟩ ∧
    decodeStatus .default 0x1E = ⟨⟨false, false, true⟩, 7, false⟩ ∧
    decodeStatus .default 0x40 = ⟨⟨true, false, false⟩, 0, false⟩ ∧
    decodeStatus .default 0xFF = ⟨⟨true, true, true⟩, 7, true⟩ ∧
    decodeStatus .default 0x8E = ⟨⟨false, false, false⟩, 7, false⟩ := by
  decide
/-- V-R7, V-R8, V-R11. -/
theorem test_query_decodings :
    decodeObserveTx .default 0xF0 = ⟨15, 0⟩ ∧ decodeObserveTx .default 0x21 = ⟨2, 1⟩ ∧
    decodeRpd .default 0xFE = false ∧
    decodeRpd .default 0x01 = true ∧ decodeFrequency .default 0xB2 = 2450 ∧
    decodeFrequency .default 0x7F = 2527 := by decide
/-- V-R9. -/
theorem test_fifo_decoding :
    decodeFifoStatus .default 0x11 = ⟨false, false, true, false, true⟩ ∧
    decodeFifoStatus .default 0x22 = ⟨false, true, false, true, false⟩ ∧
    decodeFifoStatus .default 0x40 = ⟨true, false, false, false, false⟩ ∧
    decodeFifoStatus .default 0x8C = ⟨false, false, false, false, false⟩ := by decide
/-- V-L1. -/
theorem test_quality :
    quality 800 0 = 100 ∧ quality 800 800 = 0 ∧ quality 800 1 = 99 ∧ quality 800 200 = 75 ∧
    quality 400 399 = 0 ∧ quality 100 101 = 0 ∧ quality 100 10 = 90 ∧ quality 1600 16 = 99 := by decide
/-- V-T7: a difference of exactly the wait ends it; with CLOCK_BITS the difference wraps. -/
theorem test_elapsed :
    elapsed Params.default 125 100 = 25 ∧ elapsed { Params.default with clockBits := some 8 } 4 250 = 10 := by decide

/-- R370's codes. -/
theorem test_codes :
    HostResult.code (.error .ioError) = 5 ∧ HostResult.code (.initialized false) = 0 ∧
    FaultCode.code (.widthOutOfRange 33) = 6 := by decide

/-! ## Steps of the operations -/

/-- V-C8: pass and stuck. -/
theorem test_selfTest_passes :
    after (step { ready (.busy (.init .testCompare)) [] with stOrig := 0x07, stRead := 0x06 }) (·.phase) =
      some (.busy (.init (.program CfgReg.listedOrder))) := by decide
theorem test_selfTest_fails :
    after (step { ready (.busy (.init .testCompare)) [] with stOrig := 0x00, stRead := 0x81 })
      (fun t => (t.phase, t.initialized, t.results)) = some (.uninit, false, [.initialized false]) := by decide
/-- Where no configuration is latched the step goes on, whatever the free one holds. -/
theorem test_no_configuration :
    (after (step { ready (.busy (.transmit (.commit none))) [] with cfg := none }) (·.phase)) =
      some (.busy (.transmit .rearm)) := rfl
/-- V-X1. -/
theorem test_transmit_empty :
    after (step (asked (.transmit [] true (some 7000)))) (·.results) = some [.error .payloadLength] := by decide
theorem test_transmit_uninitialized :
    after (step (askedAtReset (.transmit [] true (some 7000)))) (·.results) =
      some [.error .notInitialized] := by decide
/-- V-X3: a timeout of 0 ends POLL at once. -/
theorem test_poll_timeout_zero :
    after (step { ready (.busy (.transmit .pollTime)) [] with t0 := 100 }) (·.phase) =
      some (.busy (.transmit .settleStart)) := by decide
/-- V-X4. -/
theorem test_poll_dataReady :
    after (step (ready (.busy (.transmit .pollRead)) [0x0E, 0x40])) (fun t => (t.phase, t.pollStatus)) =
      some (.busy (.transmit .settleStart), 0x40) := by decide
/-- V-R1. -/
theorem test_receive_pipe7 :
    after (step (ready (.busy (.receive .status)) [0x0E, 0x4E])) (fun t => (t.phase, t.results)) =
      some (.idle, [.received 0 []]) := by decide
/-- V-R4 and V-R5. -/
theorem test_width_33 :
    after (step (ready (.busy (.receive .length)) [0x40, 33])) (·.phase) =
      some (.faulted (.widthOutOfRange 33)) := by decide
theorem test_width_32 :
    after (step (ready (.busy (.receive .length)) [0x40, 32])) (·.phase) =
      some (.busy (.receive (.payload 32))) := by decide
/-- V-R10. -/
theorem test_setFrequency_2450 :
    after (step (ready (.busy (.setFrequency 2450)) [0x0E, 0])) (fun t => sentBytes t.trace) =
      some [0x25, 0x32] := by decide
/-- V-L2. -/
theorem test_account_success :
    after (step (ready (.busy (.transmit (.commit (some 2)))) [])) (·.stats) = some ⟨4, 2, 0⟩ := by decide
/-- V-L4: the window closes at ARC 0. -/
theorem test_window_close :
    after (step { readyFor cfgMin (.busy (.transmit (.commit (some 0)))) [] with stats := ⟨99, 10, 0⟩ }) (·.stats) =
      some ⟨0, 0, 90⟩ := by decide
/-- V-L7: DATA_SENT with MAX_RETRANSMIT is a failure. -/
theorem test_account_failure :
    after (step { ready (.busy (.transmit .account)) [0x0E] with finalStatus := 0x3E })
      (fun t => (sentBytes t.trace, t.phase)) = some ([0xE1], .busy (.transmit (.commit none))) := by decide
/-- V-R12. -/
theorem test_linkStats_at_reset :
    after (step (askedAtReset .getLinkStats)) (fun t => (t.results, t.trace)) =
      some ([.linkStats ⟨0, 0, 0⟩], []) := by decide
/-- V-Z5: an IO_ERROR while registers are programmed. -/
theorem test_ioError_in_initialize :
    after (step (failing (.busy (.init (.program [.rfCh]))) [true])) (fun t => (t.phase, t.initialized, t.csn)) =
      some (.uninit, false, true) := by decide

/-! ## Witnesses: the hypotheses of each obligation are met, a boundary for each clause -/

/-- A link that answers, for a window of any shape. -/
theorem ready_window (p : Phase) (miso sent : List Byte) :
    (ready p miso).exchangesSucceed (exchangeCount sent) :=
  (ready_link p miso).mono (exchangeCount_le sent)

theorem witness_DecodeOfEncode :
    otherValues.Unambiguous ∧ WellFormed (.read .rxAddrP1 5) = true ∧ WellFormed (.write .txAddr [1, 2, 3]) = true ∧
    WellFormed (.readPayload 32) = true ∧ WellFormed (.writePayload [0]) = true :=
  ⟨otherValues_unambiguous, by decide⟩
theorem witness_DecodedCommandIsTheWindow :
    decode .default [0x61, 0x00] = .ok (.readPayload 1) ∧ decode .default [0x60, 0x00] = .ok .readPayloadWidth ∧
    decode .default [0x0A, 0, 0, 0] = .ok (.read .rxAddrP0 3) ∧
    decode .default [0xA0, 0x11] = .ok (.writePayload [0x11]) := by decide
theorem witness_CommandTableRowsDisjoint :
    ⟨.nop, 0xFF, 0xFF⟩ ∈ opcodeTable CommandSet.default ∧ OpcodeRow.matches ⟨.nop, 0xFF, 0xFF⟩ 0xFF = true ∧
    ⟨.writeAckPayload, 0xA8, 0xF8⟩ ∈ opcodeTable CommandSet.default ∧
    OpcodeRow.matches ⟨.writeAckPayload, 0xA8, 0xF8⟩ 0xAF = true := by decide
/-- Both ends of each range of bytes of no row. -/
theorem witness_UnencodableBytesRefused :
    decode .default [0x40] = .error (.unknownCommand 0x40) ∧ decode .default [0x5F] = .error (.unknownCommand 0x5F) ∧
    decode .default [0x62] = .error (.unknownCommand 0x62) ∧ decode .default [0x9F] = .error (.unknownCommand 0x9F) ∧
    decode .default [0xA1] = .error (.unknownCommand 0xA1) ∧ decode .default [0xA7] = .error (.unknownCommand 0xA7) ∧
    decode .default [0xB1] = .error (.unknownCommand 0xB1) ∧ decode .default [0xE0] = .error (.unknownCommand 0xE0) ∧
    decode .default [0xE4] = .error (.unknownCommand 0xE4) ∧
    decode .default [0xFE] = .error (.unknownCommand 0xFE) := by decide
theorem witness_TransactionLengths :
    WellFormed (.read .txAddr 3) = true ∧ WellFormed (.write .rxAddrP1 [1, 2, 3, 4, 5]) = true ∧
    WellFormed (.read .rpd 1) = true := by decide
theorem witness_configuration :
    configAdmitted cfgA = true ∧ configAdmitted cfgMax = true ∧ configAdmitted cfgMin = true := by decide
theorem witness_ReservedBitsWrittenZero :
    configAdmitted cfgMax = true ∧ 0x7F ∈ CfgReg.value .default cfgMax .rfCh ∧
    0x8E ∈ CfgReg.value .default cfgMax .rfSetup := by decide

theorem witness_WriteClassCompletes :
    (ready .idle []).csn = true ∧ (ready .idle []).exchangesSucceed (exchangeCount []) ∧
    (ready .idle []).exchangesSucceed (exchangeCount [0x32]) :=
  ⟨rfl, ready_window _ _ _, ready_window _ _ _⟩
theorem witness_ReadClassCompletes :
    (ready .uninit []).csn = true ∧
    (ready .uninit []).exchangesSucceed (exchangeCount (List.replicate 32 0xFF)) ∧
    (ready .uninit []).exchangesSucceed 2 :=
  ⟨rfl, ready_window _ _ _, ready_link _ _⟩
theorem witness_CommandClassCompletes : (ready .idle []).csn = true ∧ (ready .idle []).exchangesSucceed 1 :=
  ⟨rfl, (ready_link _ _).mono (by decide)⟩
theorem witness_CommandByteFailureEnds :
    (failing .idle [true]).csn = true ∧ (failing .idle [true]).env.failAt 0 = true := by decide
theorem witness_DataBlockFailureEnds :
    (failing .idle [false, true]).csn = true ∧ dataBlock .default (.read .status 1) ≠ [] ∧
    (failing .idle [false, true]).env.failAt 0 = false ∧ (failing .idle [false, true]).env.failAt 1 = true := by
  decide
theorem witness_NestedTransactionStops : { ready .idle [] with csn := false }.csn = false := rfl
/-- Each of CommandFrame's three outcomes is reached. -/
theorem witness_CommandFrame :
    after (exec .nop (ready .idle [0x0E])) (·.phase) = some .idle ∧
    after (exec .nop (failing (.busy (.init .flushTx)) [true])) (·.phase) = some .uninit ∧
    after (exec .nop { ready .idle [] with csn := false }) (·.phase) =
      some (.faulted .nestedTransaction) := by decide
theorem witness_WindowUnbroken :
    (ready .idle [0x0E]).csn = true ∧ ∃ t, exec .nop (ready .idle [0x0E]) = .next t :=
  ⟨rfl, _, rfl⟩
theorem witness_WindowCarriesEncoding :
    (ready .idle []).csn = true ∧ (ready .idle []).exchangesSucceed (exchangeCount (dataBlock .default .nop)) ∧
    (ready .idle []).exchangesSucceed (exchangeCount (dataBlock .default (.readPayload 32))) :=
  ⟨rfl, ready_window _ _ _, ready_window _ _ _⟩

theorem witness_StepRunsRequestedCommand :
    { ready .uninit [] with channelCall := some [0xE1] }.resting ∧ decode .default [0xE1] = .ok .flushTx :=
  ⟨.inl rfl, by decide⟩
theorem witness_StepRunsPlacedWord :
    State.reset.params.cmd = .default ∧ State.reset.params.reg = .default ∧ decodeTableWord 8 0xFF = some .nop ∧
    State.reset.resting ∧ (ready .idle []).resting :=
  ⟨rfl, rfl, by decide, .inl rfl, .inr rfl⟩
/-- A transaction after which the operation still runs, and one that ends it. -/
theorem witness_StepRunsOperationCommand :
    busyMicro (.init .flushTx) (ready (.busy (.init .flushTx)) [0x0E]) =
      .command .flushTx (ready (.busy (.init .flushTx)) [0x0E]) ∧
    after (exec .flushTx (ready (.busy (.init .flushTx)) [0x0E])) (·.phase) = some (.busy (.init .flushTx)) ∧
    after (exec .flushTx (failing (.busy (.init .flushTx)) [true])) (·.phase) = some .uninit := by decide
theorem witness_FaultedStopsAndRestWaits :
    (ready (.faulted (.widthOutOfRange 33)) []).phase = .faulted (.widthOutOfRange 33) ∧
    step (ready (.faulted .nestedTransaction) []) = .fault (.stopped .nestedTransaction) ∧
    State.reset.resting ∧ State.reset.channelCall = none ∧ State.reset.requests = [] :=
  ⟨rfl, rfl, .inl rfl, rfl, rfl⟩

theorem witness_InitializeChecksAndLatches :
    (askedAtReset (.init cfgA)).resting ∧ (askedAtReset (.init cfgA)).channelCall = none ∧
    (askedAtReset (.init cfgA)).requests = [.init cfgA] ∧ configAdmitted cfgA = true ∧
    configAdmitted { cfgA with channel := 128 } = false :=
  ⟨.inl rfl, rfl, rfl, by decide, by decide⟩
/-- Each micro-step of an operation is a phase some state is in, and the wait's two outcomes are both met. -/
theorem witness_InitializePinsAndSettle :
    (ready (.busy (.init .csnHigh)) []).phase = .busy (.init .csnHigh) ∧
    elapsed Params.default (ready (.busy (.init .waitHold)) []).now 0 < 10000 ∧
    elapsed { Params.default with powerupUs := 100 } (ready (.busy (.init .waitHold)) []).now 0 ≥ 100 ∧
    (ready (.busy (.init .waitHold)) []).params.clockBits = none ∧
    { ready (.busy (.init .waitHold)) [] with
      params := { Params.default with clockBits := some 5 } }.params.clockBits = some 5 ∧
    { ready (.busy (.init .waitHold)) [] with params := { Params.default with clockBits := some 5 } }.now = 4 := by
  decide
theorem witness_SelfTestOfFeature :
    (ready (.busy (.init .testRead)) []).csn = true ∧ (ready (.busy (.init .testRead)) []).exchangesSucceed 2 ∧
    (ready (.busy (.init .testRead)) []).phase = .busy (.init .testRead) ∧
    { ready (.busy (.init .testCompare)) [] with stOrig := 7, stRead := 6 }.stRead = (7 : Byte) ^^^ 0x01 ∧
    (ready (.busy (.init .testCompare)) []).stRead ≠ (ready (.busy (.init .testCompare)) []).stOrig ^^^ 0x01 :=
  ⟨rfl, ready_link _ _, rfl, by decide, by decide⟩
theorem witness_RegistersProgrammedInOrder :
    (ready (.busy (.init (.program [.txAddr, .feature]))) []).phase =
      .busy (.init (.program [.txAddr, .feature])) ∧
    (ready (.busy (.init (.program [.txAddr, .feature]))) []).cfg = some cfgA ∧
    (ready (.busy (.init (.program [.txAddr, .feature]))) []).csn = true ∧
    (ready (.busy (.init (.program [.txAddr, .feature]))) []).exchangesSucceed
      (exchangeCount (CfgReg.value .default cfgA .txAddr)) :=
  ⟨rfl, rfl, rfl, ready_window _ _ _⟩
theorem witness_InitializeFlushesAndClears :
    (readyFor cfgMax (.busy (.init .reuse)) []).csn = true ∧
    (readyFor cfgMax (.busy (.init .reuse)) []).exchangesSucceed 2 ∧
    (readyFor cfgMax (.busy (.init .reuse)) []).phase = .busy (.init .reuse) ∧
    (readyFor cfgMax (.busy (.init .reuse)) []).cfg = some cfgMax ∧ cfgMax.txReuse = true ∧
    cfgA.txReuse = false :=
  ⟨rfl, readyFor_link _ _ _, rfl, rfl, rfl, rfl⟩
theorem witness_ChipEnableAndCompletion :
    (readyFor cfgMax (.busy (.init .chipEnable)) []).phase = .busy (.init .chipEnable) ∧
    (readyFor cfgMax (.busy (.init .chipEnable)) []).cfg = some cfgMax ∧ cfgMax.mode = .receiver ∧
    cfgA.mode = .transmitter := by decide

/-- Lengths 0, 1, 32 and 33, and the block not initialized. -/
theorem witness_TransmitChecksAndLatches :
    (asked (.transmit [] true none)).resting ∧ (asked (.transmit [] true none)).channelCall = none ∧
    (asked (.transmit [] true none)).initialized = true ∧ (asked (.transmit [] true none)).cfg = some cfgA ∧
    (askedAtReset (.transmit [] true none)).initialized = false ∧ (List.replicate 33 (0 : Byte)).length > 32 ∧
    1 ≤ (List.replicate 32 (0 : Byte)).length ∧ (List.replicate 32 (0 : Byte)).length ≤ 32 :=
  ⟨.inr rfl, rfl, rfl, rfl, rfl, by decide, by decide, by decide⟩
theorem witness_LoadedAndArmed :
    (ready (.busy (.transmit .loaded)) []).csn = true ∧
    (ready (.busy (.transmit .loaded)) []).exchangesSucceed 2 ∧
    (ready (.busy (.transmit .loaded)) []).phase = .busy (.transmit .loaded) :=
  ⟨rfl, ready_link _ _, rfl⟩
/-- The pulse's bound on both sides: a difference of 25 ends it, 24 does not. -/
theorem witness_PulseHeldAndLowered :
    (ready (.busy (.transmit .pulseHold)) []).phase = .busy (.transmit .pulseHold) ∧
    elapsed Params.default (ready (.busy (.transmit .pulseHold)) []).now 75 = 25 ∧
    elapsed Params.default (ready (.busy (.transmit .pulseHold)) []).now 76 = 24 := by decide
theorem witness_PollIterates :
    (ready (.busy (.transmit .pollRead)) []).phase = .busy (.transmit .pollRead) ∧
    (ready (.busy (.transmit .pollRead)) []).csn = true ∧
    (ready (.busy (.transmit .pollRead)) []).exchangesSucceed 2 :=
  ⟨rfl, rfl, ready_link _ _⟩
theorem witness_SettleReadsFinalStatus :
    (ready (.busy (.transmit .settleRead)) []).phase = .busy (.transmit .settleRead) ∧
    (ready (.busy (.transmit .settleRead)) []).csn = true ∧
    (ready (.busy (.transmit .settleRead)) []).exchangesSucceed 2 :=
  ⟨rfl, rfl, ready_link _ _⟩
theorem witness_RearmAndReturn :
    (readyFor cfgMax (.busy (.transmit .rearm)) []).phase = .busy (.transmit .rearm) ∧
    (readyFor cfgMax (.busy (.transmit .rearm)) []).cfg = some cfgMax ∧ cfgMax.txReuse = true ∧
    (readyFor cfgMax (.busy (.transmit .rearm)) []).csn = true ∧
    (readyFor cfgMax (.busy (.transmit .rearm)) []).exchangesSucceed 1 :=
  ⟨rfl, rfl, rfl, rfl, (readyFor_link _ _ _).mono (by decide)⟩
/-- Pipes 0 and 1. -/
theorem witness_ReceivePipeTest :
    (ready (.busy (.receive .status)) [0x0E, 0x40]).exchangesSucceed 2 ∧
    (decodeStatus .default (ready (.busy (.receive .status)) [0x0E, 0x40]).nextByte).pipe = 0 ∧
    (decodeStatus .default (ready (.busy (.receive .status)) [0x0E, 0x02]).nextByte).pipe ≠ 0 ∧
    (ready (.busy (.transmit (.drain .status))) [0x0E, 0x02]).phase = .busy (.transmit (.drain .status)) :=
  ⟨ready_link _ _, by decide, by decide, rfl⟩
/-- Dynamic and static, and the widths 0, 32 and 33. -/
theorem witness_ReceiveLength :
    (ready (.busy (.receive .length)) [0x40, 0]).cfg = some cfgA ∧ cfgA.dynamicPayload = true ∧
    (ready (.busy (.receive .length)) [0x40, 0]).exchangesSucceed 2 ∧
    (ready (.busy (.receive .length)) [0x40, 0]).nextByte.toNat = 0 ∧
    (ready (.busy (.receive .length)) [0x40, 32]).nextByte.toNat = 32 ∧
    (ready (.busy (.receive .length)) [0x40, 33]).nextByte.toNat = 33 ∧
    (readyFor cfgMin (.busy (.receive .length)) []).cfg = some cfgMin ∧ cfgMin.dynamicPayload = false ∧
    cfgMin.staticPayloadWidth = 0 :=
  ⟨rfl, rfl, ready_link _ _, by decide, by decide, by decide, rfl, rfl, rfl⟩
theorem witness_ReceiveStoresPayload :
    (ready (.busy (.receive (.payload 1))) [0x40, 0xAB]).csn = true ∧
    (ready (.busy (.receive (.payload 1))) [0x40, 0xAB]).exchangesSucceed 2 ∧
    (ready (.busy (.receive (.payload 1))) [0x40, 0xAB]).phase = .busy (.receive (.payload 1)) ∧
    (ready (.busy (.transmit (.drain (.payload 32)))) []).phase = .busy (.transmit (.drain (.payload 32))) :=
  ⟨rfl, ready_link _ _, rfl, rfl⟩
theorem witness_ReceiveLeavesFlagsAndPins :
    { ready (.busy (.receive .status)) [0x0E, 0x40] with params := otherValues }.params.Unambiguous ∧
    { ready (.busy (.receive .status)) [0x0E, 0x40] with params := otherValues }.phase = .busy (.receive .status) ∧
    ∃ t, step { ready (.busy (.receive .status)) [0x0E, 0x40] with params := otherValues } = .next t :=
  ⟨otherValues_unambiguous, rfl, _, rfl⟩
/-- The flags of V-L7. -/
theorem witness_AccountTransaction :
    (ready (.busy (.transmit .account)) []).phase = .busy (.transmit .account) ∧
    (ready (.busy (.transmit .account)) []).csn = true ∧
    (ready (.busy (.transmit .account)) []).exchangesSucceed 2 ∧
    (decodeStatus .default 0x3E).flags.maxRetransmit = true ∧
    (decodeStatus .default 0x40).flags.maxRetransmit = false ∧
    (decodeStatus .default 0x40).flags.dataReady = true :=
  ⟨rfl, rfl, ready_link _ _, by decide, by decide, by decide⟩
/-- One short of the window, and the window. -/
theorem witness_AccountCommit :
    (readyFor cfgMin (.busy (.transmit (.commit none))) []).cfg = some cfgMin ∧
    (readyFor cfgMin (.busy (.transmit (.commit none))) []).phase = .busy (.transmit (.commit none)) ∧
    98 + (cfgMin.retransmitCount + 1) < 100 * (cfgMin.retransmitCount + 1) ∧
    99 + (cfgMin.retransmitCount + 1) ≥ 100 * (cfgMin.retransmitCount + 1) := by decide
theorem witness_QualityFormula : 100 ≥ 100 ∧ 99 < 100 ∧ quality 100 100 = 0 ∧ quality 100 99 = 1 := by decide
theorem witness_QueriesReturnDecodedByte :
    (ready (.busy (.query .rpd)) [0x0E, 0x01]).csn = true ∧
    (ready (.busy (.query .rpd)) [0x0E, 0x01]).exchangesSucceed 2 ∧
    (ready (.busy (.query .rpd)) [0x0E, 0x01]).phase = .busy (.query .rpd) :=
  ⟨rfl, ready_link _ _, rfl⟩
/-- V-R10's edges: 2399, 2400, 2527, 2528. -/
theorem witness_SetFrequencyWritesChannel :
    (asked (.setFrequency 2399)).resting ∧ (asked (.setFrequency 2399)).initialized = true ∧
    [2399, 2400, 2527, 2528].map frequencyAdmitted = [false, true, true, false] ∧
    (ready (.busy (.setFrequency 2527)) []).phase = .busy (.setFrequency 2527) ∧
    (ready (.busy (.setFrequency 2527)) []).csn = true ∧
    (ready (.busy (.setFrequency 2527)) []).exchangesSucceed 2 :=
  ⟨.inr rfl, rfl, by decide, rfl, rfl, ready_link _ _⟩
theorem witness_AckPayloadPreloaded :
    (asked (.writeAckPayload [])).resting ∧ (asked (.writeAckPayload [])).initialized = true ∧
    (ready (.busy (.ackFlush [0x55])) []).csn = true ∧ (ready (.busy (.ackFlush [0x55])) []).exchangesSucceed 2 ∧
    (ready (.busy (.ackPreload [0x55])) []).phase = .busy (.ackPreload [0x55]) :=
  ⟨.inr rfl, rfl, rfl, ready_link _ _, rfl⟩
theorem witness_ReadingOperationsStart :
    (asked .receive).resting ∧ (asked .receive).channelCall = none ∧ (asked .receive).initialized = true ∧
    (asked .receive).requests = [.receive] :=
  ⟨.inr rfl, rfl, rfl, rfl⟩
theorem witness_LinkStatsReturned :
    (askedAtReset .getLinkStats).resting ∧ (askedAtReset .getLinkStats).requests = [.getLinkStats] ∧
    (askedAtReset .getLinkStats).channelCall = none :=
  ⟨.inl rfl, rfl, rfl⟩
theorem witness_NotInitializedComesFirst :
    (askedAtReset (.setFrequency 9999)).resting ∧ (askedAtReset (.setFrequency 9999)).channelCall = none ∧
    (askedAtReset (.setFrequency 9999)).initialized = false ∧
    (∀ c, HostOp.setFrequency 9999 ≠ .init c) ∧ HostOp.setFrequency 9999 ≠ .getLinkStats ∧
    ∀ e, HostResult.initialized false ≠ .error e :=
  ⟨.inl rfl, rfl, rfl, fun _ => by simp, by decide, fun _ => by simp⟩
theorem witness_IoErrorEndsOperation :
    busyMicro (.query .rpd) (failing (.busy (.query .rpd)) [false, true]) =
      .command (.read .rpd 1) (failing (.busy (.query .rpd)) [false, true]) ∧
    (failing (.busy (.query .rpd)) [false, true]).csn = true ∧ dataBlock .default (.read .rpd 1) ≠ [] ∧
    (failing (.busy (.query .rpd)) [false, true]).env.failAt 1 = true ∧
    (failing (.busy (.init .flushTx)) [true]).env.failAt 0 = true := by decide

/-- A state that meets every invariant and steps. -/
theorem witness_invariants :
    (asked .getStatus).Coherent ∧ (asked .getStatus).BufferFits ∧ (asked .getStatus).CsnIdle ∧
    (asked .getStatus).CeGated ∧ (asked .getStatus).AckPath ∧ (asked .getStatus).WindowOpen cfgA ∧
    ∃ t, step (asked .getStatus) = .next t :=
  ⟨⟨rfl, by decide⟩, ⟨rfl, by decide, fun _ h => by simp [asked, ready, Phase.pendingWidth] at h⟩, .inl rfl,
    fun h => by simp [asked, ready, State.reset, State.powerOn] at h,
    fun h => by simp [asked, ready, Phase.needsAck] at h, ⟨by decide, by decide⟩, _, rfl⟩
/-- Where CSN 0 or CE 1 is allowed: before the first INITIALIZE latches, while it drives the pins, and in receiver mode
in FAULTED; and a running operation of a coherent block. -/
theorem witness_pins_edges :
    (State.powerOn false true Params.default).CsnIdle ∧ (State.powerOn false true Params.default).CeGated ∧
    { ready (.busy (.init .csnHigh)) [] with csn := false }.CsnIdle ∧
    { readyFor cfgMax (.faulted (.widthOutOfRange 33)) [] with ce := true }.CeGated ∧
    (ready (.busy (.query .rpd)) []).Coherent :=
  ⟨.inr (.inr ⟨rfl, .inl rfl⟩), fun _ => rfl, .inr (.inl rfl), fun _ => by decide, ⟨rfl, by decide⟩⟩
/-- The same block is out of the two invariants with a configuration latched, or as a transmitter. -/
theorem witness_pins_excluded :
    ¬ { ready .uninit [] with csn := false }.CsnIdle ∧ ¬ { ready .uninit [] with ce := true }.CeGated ∧
    ¬ { ready (.faulted (.widthOutOfRange 33)) [] with ce := true }.CeGated := by
  simp [State.CsnIdle, State.CeGated, ready, Phase.ceMayBeHigh, State.receiving, cfgA]
/-- CE 1 in PULSE, a read of 32 bytes about to be made, an acknowledged transmit in POLL. -/
theorem witness_invariants_edges :
    { ready (.busy (.transmit .pulseHold)) [] with ce := true }.CeGated ∧
    (ready (.busy (.receive (.payload 32))) []).BufferFits ∧
    { ready (.busy (.transmit .pollRead)) [] with txAck := true }.AckPath ∧
    { readyFor cfgMin (.busy (.transmit (.commit none))) [] with stats := ⟨99, 0, 0⟩ }.WindowOpen cfgMin :=
  ⟨fun _ => rfl, ⟨rfl, by decide, fun w h => by
    simp only [ready, Phase.pendingWidth, Option.some.injEq] at h
    omega⟩, fun _ => rfl, ⟨by decide, by decide⟩⟩
/-- Steps that write: the statistics, the configuration, the status latch. -/
theorem witness_RegisterWriters :
    after (step (ready (.busy (.transmit (.commit none))) [])) (·.stats) = some ⟨4, 4, 0⟩ ∧
    after (step (askedAtReset (.init cfgA))) (·.cfg) = some (some cfgA) ∧
    after (step (ready (.busy (.query .rpd)) [0x2E, 0])) (·.lastStatus) = some (some 0x2E) := by decide

end Sys2Proof.Tests
end

section
/-! SUPPORT. What a running operation can make of the state between two transactions, said once (`BusyNext`): the
invariants over every step are case analyses of it and do not unfold the micro-steps. -/

namespace Sys2Proof.Machine

/-! ## The vocabulary -/

/-- What no operation writes between two transactions while it runs, ACCOUNT's commit aside; the clock only goes on.
The fields are proved by unfolding unless a proof is given: only a clock reading needs one. -/
structure State.Keeps (s t : State) : Prop where
  initialized : t.initialized = s.initialized := by rfl
  cfg : t.cfg = s.cfg := by rfl
  lastStatus : t.lastStatus = s.lastStatus := by rfl
  stats : t.stats = s.stats := by rfl
  params : t.params = s.params := by rfl
  clock : s.env.now ≤ t.env.now := by exact Nat.le_refl _

/-- What an operation may do with the acknowledgment buffer: leave it, mark it empty, or store the bytes of the read
it was about to make (44_receive_and_queries R302). -/
inductive State.AckNext (s t : State) : Prop where
  | same (buf : t.ackBuf = s.ackBuf) (len : t.ackLen = s.ackLen)
  | emptied (buf : t.ackBuf = s.ackBuf) (len : t.ackLen = 0)
  | stored (data : List Byte) (pending : s.phase.pendingWidth = some data.length)
      (buf : t.ackBuf = data ++ s.ackBuf.drop data.length) (len : t.ackLen = data.length)

/-- A width about to be read is 1..32 (44_receive_and_queries R302, R303). -/
def Phase.WidthFits (p : Phase) : Prop := ∀ w, p.pendingWidth = some w → 1 ≤ w ∧ w ≤ 32

/-- What a running operation can make of the state, by an update or by going on after a transaction: it goes on in a
micro-step of its own, INITIALIZE ends, ACCOUNT commits, another operation returns, or it stops with a fault. -/
inductive BusyNext (b : Busy) (s : State) : State → Prop where
  | goesOn {u : State} {b' : Busy} (keep : s.Keeps u) (ack : s.AckNext u)
      (kind : (Phase.busy b').isInit = (Phase.busy b).isInit) (width : (Phase.busy b').WidthFits) :
      BusyNext b s (u.setPhase (.busy b'))
  | initEnds (ok : Bool) (kind : (Phase.busy b).isInit = true) :
      BusyNext b s ((s.setInitialized ok).finish (if ok then .idle else .uninit) (.initialized ok))
  | commits (r : Option Nat) (commit : b = .transmit (.commit r)) :
      BusyNext b s ((s.account s.config r).txGoto .rearm)
  | returns {u : State} (r : HostResult) (keep : s.Keeps u) (ack : s.AckNext u) (kind : (Phase.busy b).isInit = false) :
      BusyNext b s (u.finish .idle r)
  | stops (c : FaultCode) : BusyNext b s (s.stop c)

theorem State.AckNext.refl (s : State) : s.AckNext s := .same rfl rfl

theorem Phase.widthFits_of_none {p : Phase} (h : p.pendingWidth = none) : p.WidthFits := by
  simp [Phase.WidthFits, h]

/-- The operation leaves the acknowledgment buffer and goes on in a micro-step that reads no payload. -/
theorem BusyNext.moves {b b' : Busy} {s u : State} (keep : s.Keeps u) (buf : u.ackBuf = s.ackBuf := by rfl)
    (len : u.ackLen = s.ackLen := by rfl) (kind : (Phase.busy b').isInit = (Phase.busy b).isInit := by rfl)
    (width : (Phase.busy b').pendingWidth = none := by rfl) : BusyNext b s (u.setPhase (.busy b')) :=
  .goesOn keep (.same buf len) kind (Phase.widthFits_of_none width)

/-- The operation leaves the acknowledgment buffer and stays in its micro-step, which reads no payload. -/
theorem BusyNext.stays {b : Busy} {s u : State} (hp : u.phase = .busy b) (keep : s.Keeps u)
    (buf : u.ackBuf = s.ackBuf := by rfl) (len : u.ackLen = s.ackLen := by rfl)
    (width : (Phase.busy b).pendingWidth = none := by rfl) : BusyNext b s u := by
  have h : u.setPhase (.busy b) = u := by rw [← hp]; rfl
  exact h ▸ .moves keep buf len rfl width

/-- A clock reading keeps everything and lets the clock go on (10_state R23). -/
theorem State.keeps_readClock (s : State) : s.Keeps s.readClock := { clock := s.env.now_le_reading }

/-! ## INITIALIZE -/

/-- INITIALIZE's updates (42_configuration R212, R213, R225, R227..R229). -/
theorem initMicro_next {st : InitStep} {s t : State} (hp : s.phase = .busy (.init st))
    (h : initMicro st s = .update t) : BusyNext (.init st) s t := by
  cases st with
  | csnHigh => cases h; exact .moves {}
  | ceLow => cases h; exact .moves {}
  | waitStart => cases h; exact .moves { clock := s.env.now_le_reading }
  | waitHold =>
    cases h
    split
    · exact .moves s.keeps_readClock
    · exact .stays hp s.keeps_readClock
  | testCompare =>
    cases h
    split
    · exact .moves {}
    · exact .initEnds false rfl
  | program rest =>
    cases rest with
    | nil => cases h; exact .moves {}
    | cons r rest => simp [initMicro] at h
  | reuse =>
    simp only [initMicro] at h
    split at h
    · cases h
    · cases h; exact .moves {}
  | chipEnable =>
    cases h
    split
    · exact .moves {}
    · exact .moves {}
  | complete => cases h; exact .initEnds true rfl
  | testRead | testFlip | testReadBack | testRestore | flushTx | flushRx | clearFlags => cases h

/-- INITIALIZE after a transaction (42_configuration R213, R225..R227). -/
theorem initResume_next {st : InitStep} {s : State} (hp : s.phase = .busy (.init st)) :
    BusyNext (.init st) s (initResume st s) := by
  cases st with
  | program rest =>
    cases rest with
    | nil => exact .stays hp {}
    | cons r rest => exact .moves {}
  | testRead | testFlip | testReadBack | testRestore | flushTx | flushRx | clearFlags | reuse => exact .moves {}
  | csnHigh | ceLow | waitStart | waitHold | testCompare | chipEnable | complete => exact .stays hp {}

/-! ## The receive procedure -/

/-- `wrap` and `done` place the receive procedure in an operation other than INITIALIZE: its last micro-step is a read
about to be made, and after it the operation goes on or returns. -/
structure RunsReceive (wrap : ReceiveStep → Busy) (done : State → State) : Prop where
  kind : ∀ rs, (Phase.busy (wrap rs)).isInit = false
  length : (Phase.busy (wrap .length)).pendingWidth = none
  payload : ∀ w, (Phase.busy (wrap (.payload w))).pendingWidth = some w
  done : ∀ {rs s u}, s.Keeps u → s.AckNext u → BusyNext (wrap rs) s (done u)

/-- RECEIVE runs the procedure and returns (44_receive_and_queries R301). -/
theorem receive_runsReceive : RunsReceive .receive receiveDone where
  kind _ := rfl
  length := rfl
  payload _ := rfl
  done keep ack := .returns _ keep ack rfl

/-- DRAIN runs the procedure and goes on to ACCOUNT or REARM (43_transmit R259, R260). -/
theorem drain_runsReceive : RunsReceive drainWrap drainDone where
  kind _ := rfl
  length := rfl
  payload _ := rfl
  done keep ack := .goesOn keep ack rfl (Phase.widthFits_of_none (by split <;> rfl))

section ReceiveProcedure

variable {wrap : ReceiveStep → Busy} {done : State → State} {rs : ReceiveStep} {s t : State}

/-- A known width ends the procedure, stops the block or leads to the read of 1..32 bytes (44_receive_and_queries R302,
R303). -/
theorem widthKnown_next (runs : RunsReceive wrap done) (w : Nat) :
    BusyNext (wrap rs) s (widthKnown wrap done w s) := by
  obtain ⟨-, he⟩ | ⟨-, he⟩ | ⟨h1, h32, he⟩ := widthKnown_cases wrap done w s
  · exact he ▸ runs.done {} (.emptied rfl rfl)
  · exact he ▸ .stops _
  · have fits : (Phase.busy (wrap (.payload w))).WidthFits := by
      intro w' hw
      obtain rfl : w = w' := by simpa [runs.payload] using hw
      exact ⟨h1, h32⟩
    exact he ▸ .goesOn {} (.refl s) (by rw [runs.kind, runs.kind]) fits

/-- The procedure's one update takes the static payload width (44_receive_and_queries R302). -/
theorem receiveMicro_next (runs : RunsReceive wrap done) (h : receiveMicro wrap done rs s = .update t) :
    BusyNext (wrap rs) s t := by
  cases rs with
  | length =>
    simp only [receiveMicro] at h
    split at h
    · cases h
    · cases h; exact widthKnown_next runs _
  | status | payload w => cases h

/-- The procedure after its transaction, the bytes of a payload read there (44_receive_and_queries R301, R302). -/
theorem receiveResume_next (runs : RunsReceive wrap done) (hp : s.phase = .busy (wrap rs))
    (hdata : ∀ w, s.phase.pendingWidth = some w → s.rxData.length = w) :
    BusyNext (wrap rs) s (receiveResume wrap done rs s) := by
  cases rs with
  | status =>
    simp only [receiveResume]
    split
    · exact .moves {} (kind := by rw [runs.kind, runs.kind]) (width := runs.length)
    · exact runs.done {} (.emptied rfl rfl)
  | length => exact widthKnown_next runs _
  | payload w =>
    have pending : s.phase.pendingWidth = some w := by rw [hp, runs.payload]
    obtain rfl := hdata w pending
    exact runs.done {} (.stored s.rxData pending rfl rfl)

end ReceiveProcedure

/-! ## TRANSMIT -/

/-- TRANSMIT's updates (43_transmit R252..R262). -/
theorem transmitMicro_next {st : TransmitStep} {s t : State} (hp : s.phase = .busy (.transmit st))
    (h : transmitMicro st s = .update t) : BusyNext (.transmit st) s t := by
  cases st with
  | pulseRaise => cases h; exact .moves {}
  | pulseStamp | pollEnter | pollWaitStart | settleStart =>
    cases h; exact .moves { clock := s.env.now_le_reading }
  | pulseHold | pollWaitHold | settleHold =>
    cases h
    split
    · exact .moves s.keeps_readClock
    · exact .stays hp s.keeps_readClock
  | pulseLower => cases h; exact .moves {} (width := by split <;> rfl)
  | pollTime => cases h; exact .moves s.keeps_readClock (width := by split_ifs <;> rfl)
  | drain rs => exact receiveMicro_next drain_runsReceive h
  | commit r => cases h; exact .commits r rfl
  | rearm =>
    simp only [transmitMicro] at h
    split at h
    · cases h
    · cases h; exact .moves {}
  | finish => cases h; exact .returns _ {} (.refl s) rfl
  | loaded | armedFlush | armedClear | pollRead | settleRead | account => cases h

/-- TRANSMIT after a transaction (43_transmit R252..R261). -/
theorem transmitResume_next {st : TransmitStep} {s : State} (hp : s.phase = .busy (.transmit st))
    (hdata : ∀ w, s.phase.pendingWidth = some w → s.rxData.length = w) :
    BusyNext (.transmit st) s (transmitResume st s) := by
  cases st with
  | loaded | armedFlush | armedClear | settleRead | account | rearm => exact .moves {}
  | pollRead => exact .moves {} (width := by split <;> rfl)
  | drain rs => exact receiveResume_next drain_runsReceive hp hdata
  | pulseRaise | pulseStamp | pulseHold | pulseLower | pollEnter | pollTime | pollWaitStart | pollWaitHold
  | settleStart | settleHold | commit _ | finish => exact .stays hp {}

/-! ## Every operation -/

/-- Everything a running operation's update can do (10_state R25, R26). -/
theorem busyMicro_next {b : Busy} {s t : State} (hp : s.phase = .busy b) (h : busyMicro b s = .update t) :
    BusyNext b s t := by
  cases b with
  | init st => exact initMicro_next hp h
  | transmit st => exact transmitMicro_next hp h
  | receive rs => exact receiveMicro_next receive_runsReceive h
  | ackFlush _ | ackPreload _ | query _ | setFrequency _ => cases h

/-- Everything a running operation can do after a transaction that raised nothing, the bytes of a payload read there
(10_state R26). -/
theorem busyResume_next {b : Busy} {s : State} (hp : s.phase = .busy b)
    (hdata : ∀ w, s.phase.pendingWidth = some w → s.rxData.length = w) : BusyNext b s (busyResume b s) := by
  cases b with
  | init st => exact initResume_next hp
  | transmit st => exact transmitResume_next hp hdata
  | receive rs => exact receiveResume_next receive_runsReceive hp hdata
  | ackFlush p => exact .moves {}
  | ackPreload _ | query _ | setFrequency _ => exact .returns _ {} (.refl s) rfl

end Sys2Proof.Machine
end

section
/-! SUPPORT. What one step can make of the block's registers, said once (`StepNext`). -/

namespace Sys2Proof.Machine

/-! ## The vocabulary -/

/-- What a transaction leaves alone; the status latch changes at a transaction only (41_channel R182). -/
structure State.Frame (s u : State) : Prop where
  cfg : u.cfg = s.cfg := by rfl
  stats : u.stats = s.stats := by rfl
  ackBuf : u.ackBuf = s.ackBuf := by rfl
  ackLen : u.ackLen = s.ackLen := by rfl
  params : u.params = s.params := by rfl
  clock : u.env.now = s.env.now := by rfl
  status : u.lastStatus = s.lastStatus ∨ ∃ i s', nextMicro s = .command i s'

/-- Everything a step can make of the state: the wait at rest, the taking of a host operation, a transaction begun with
CSN 0, a transaction that ends with no operation running, and a micro-step of a running operation, its transaction
before it if it has one (10_state R25, R26). -/
inductive StepNext (s : State) : State → Prop where
  | waits (rest : s.resting) : StepNext s s
  | accepts {t : State} {op : HostOp} {ops : List HostOp} (rest : s.resting) (asked : s.requests = op :: ops)
      (taken : accept op (s.setRequests ops) = .update t) : StepNext s t
  | stops {t : State} (frame : s.Frame t) (phase : t.phase = .faulted .nestedTransaction) : StepNext s t
  | ends {t : State} (frame : s.Frame t) (phase : t.phase = s.phase.afterError)
      (flag : t.initialized = (s.initialized && !s.phase.isInit)) : StepNext s t
  | runs {u t : State} {b : Busy} (running : s.phase = .busy b) (next : BusyNext b u t) (frame : s.Frame u)
      (phase : u.phase = s.phase) (flag : u.initialized = s.initialized) : StepNext s t

/-! ## A transaction in a step -/

/-- At rest there is nothing an error would end (60_exceptions R372). -/
theorem State.resting.afterError_eq {s : State} (h : s.resting) : s.phase.afterError = s.phase := by
  obtain h | h := h <;> rw [h] <;> rfl

theorem State.resting.isInit_eq {s : State} (h : s.resting) : s.phase.isInit = false := by
  obtain h | h := h <;> rw [h] <;> rfl

theorem State.resting.not_busy {s : State} (h : s.resting) (b : Busy) : s.phase ≠ .busy b := by
  obtain h | h := h <;> simp [h]

/-- The one transaction of a micro-step that is about to read a payload is that read (44_receive_and_queries R302). -/
theorem busyMicro_of_pendingWidth {b : Busy} {s s₁ : State} {i : Instr} {w : Nat}
    (hw : (Phase.busy b).pendingWidth = some w) (hm : busyMicro b s = .command i s₁) : i = .readPayload w := by
  unfold Phase.pendingWidth at hw
  split at hw
  all_goals simp_all [busyMicro, transmitMicro, receiveMicro]

/-- A payload read that completes leaves as many bytes as it asked for (41_channel R186). -/
theorem completed_rxData_length (s : State) (w : Nat) :
    (s.completed (commandByte s.params (.readPayload w)) (dataBlock s.params (.readPayload w))
      (transferOf (.readPayload w)).isRead).rxData.length = w := by
  simp [State.completed, State.nextData, transferOf, Transfer.isRead, dataBlock]

/-- What a running operation does after its transaction completed. -/
theorem busyResume_completed_next {b : Busy} {s : State} {i : Instr} (hp : s.phase = .busy b)
    (hm : busyMicro b s = .command i s) :
    BusyNext b (s.completed (commandByte s.params i) (dataBlock s.params i) (transferOf i).isRead)
      (busyResume b (s.completed (commandByte s.params i) (dataBlock s.params i) (transferOf i).isRead)) := by
  refine busyResume_next hp fun w hw => ?_
  rw [State.completed_phase, hp] at hw
  rw [busyMicro_of_pendingWidth hw hm]
  exact completed_rxData_length s w

/-! ## Everything a step can do -/

/-- The cases of `step_cases`, each by what its update, its transaction or its continuation leaves. -/
theorem step_next {s t : State} (h : step s = .next t) : StepNext s t := by
  obtain hm | ⟨i, s₁, hm, ht⟩ := step_cases h
  · obtain ⟨hr, -, -, rfl⟩ | ⟨hr, -, op, ops, hq, ha⟩ | ⟨b, hp, hb⟩ := nextMicro_update hm
    · exact .waits hr
    · exact .accepts hr hq ha
    · exact .runs hp (busyMicro_next hp hb) { status := .inl rfl } rfl rfl
  have command : ∃ i s', nextMicro s = .command i s' := ⟨i, s₁, hm⟩
  obtain ⟨hr, rfl, -⟩ | ⟨b, hp, hb, rfl⟩ := nextMicro_command hm
  · obtain ⟨-, rfl⟩ | ⟨-, m, f, md, fd, tr, ls, rx, rfl⟩ | ⟨-, rfl⟩ := ht
    · exact .stops { status := .inl rfl } rfl
    · exact .ends { status := .inr command } rfl rfl
    · rw [resume_of_not_busy (by exact hr.not_busy)]
      exact .ends { status := .inr command } hr.afterError_eq.symm (by simp [hr.isInit_eq, State.completed])
  · obtain ⟨-, rfl⟩ | ⟨-, m, f, md, fd, tr, ls, rx, rfl⟩ | ⟨-, rfl⟩ := ht
    · exact .stops { status := .inl rfl } rfl
    · exact .ends { status := .inr command } rfl rfl
    · rw [resume_of_busy (by exact hp)]
      exact .runs hp (busyResume_completed_next hp hb) { status := .inr command } rfl rfl

end Sys2Proof.Machine
end

section
/-! SUPPORT. The proofs of coherence (10_state R25, R29, R30). -/

namespace Sys2Proof.Machine

theorem State.coherent_of_busy {s : State} {b : Busy} (hp : s.phase = .busy b) :
    s.Coherent ↔ s.initialized = !(Phase.busy b).isInit ∧ s.configured = true := by
  cases b <;> simp [State.Coherent, hp, Phase.isInit]

theorem State.coherent_of_uninit {s : State} (hp : s.phase = .uninit) : s.Coherent ↔ s.initialized = false := by
  simp [State.Coherent, hp]

theorem State.coherent_of_idle {s : State} (hp : s.phase = .idle) :
    s.Coherent ↔ s.initialized = true ∧ s.configured = true := by
  simp [State.Coherent, hp]

theorem State.coherent_of_faulted {s : State} {c : FaultCode} (hp : s.phase = .faulted c) : s.Coherent := by
  simp [State.Coherent, hp]

theorem State.configured_congr {s t : State} (h : t.cfg = s.cfg) : t.configured = s.configured := by
  rw [State.configured, State.configured, h]

/-- Coherence speaks of the phase, the flag and the configuration only. -/
theorem State.Coherent.congr {s t : State} (hs : s.Coherent) (hp : t.phase = s.phase)
    (hi : t.initialized = s.initialized) (hc : t.cfg = s.cfg) : t.Coherent := by
  rw [State.Coherent, hp, hi, State.configured_congr hc]
  exact hs

/-- A running operation of a coherent block has a latched configuration INITIALIZE admits (10_state R30). -/
theorem State.Coherent.latched {s : State} {b : Busy} (hs : s.Coherent) (hp : s.phase = .busy b) :
    ∃ c, s.cfg = some c ∧ configAdmitted c = true := by
  obtain ⟨-, hc⟩ := (State.coherent_of_busy hp).mp hs
  simpa [State.configured, Option.any_eq_true] using hc

/-- Whatever a running operation does, the block stays coherent. -/
theorem BusyNext.coherent {b : Busy} {s t : State} (h : BusyNext b s t) (hp : s.phase = .busy b)
    (hs : s.Coherent) : t.Coherent := by
  obtain ⟨hi, hc⟩ := (State.coherent_of_busy hp).mp hs
  cases h with
  | @goesOn u b' keep ack kind width =>
    refine (State.coherent_of_busy (b := b') rfl).mpr ⟨?_, ?_⟩
    · rw [State.setPhase_initialized, keep.initialized, hi, kind]
    · exact (State.configured_congr keep.cfg).trans hc
  | initEnds ok kind =>
    cases ok with
    | false => exact (State.coherent_of_uninit rfl).mpr rfl
    | true => exact (State.coherent_of_idle rfl).mpr ⟨rfl, hc⟩
  | commits r commit =>
    subst commit
    exact (State.coherent_of_busy (b := .transmit .rearm) rfl).mpr ⟨hi, hc⟩
  | @returns u r keep ack kind =>
    refine (State.coherent_of_idle rfl).mpr ⟨?_, (State.configured_congr keep.cfg).trans hc⟩
    exact keep.initialized.trans (by rw [hi, kind]; rfl)
  | stops c => exact State.coherent_of_faulted rfl

/-- A transaction that ends the running operation leaves the block coherent: UNINIT after INITIALIZE, else IDLE
(60_exceptions R372). -/
theorem State.Coherent.afterError {s t : State} (hs : s.Coherent) (hc : t.cfg = s.cfg)
    (hp : t.phase = s.phase.afterError) (hi : t.initialized = (s.initialized && !s.phase.isInit)) : t.Coherent := by
  rw [State.Coherent, hp, hi, State.configured_congr hc]
  unfold State.Coherent at hs
  split at hs
  all_goals simp_all [Phase.afterError, Phase.isInit]

/-- A micro-step that starts an operation other than INITIALIZE is none of INITIALIZE's. -/
theorem Busy.isStart_isInit {b : Busy} (h : b.isStart = true) : (Phase.busy b).isInit = false := by
  cases b with
  | init st => cases h
  | transmit _ | receive _ | ackFlush _ | ackPreload _ | query _ | setFrequency _ => rfl

/-- Taking a host operation leaves the block coherent (60_exceptions R371; 42_configuration R211). -/
theorem accept_keeps_coherent {op : HostOp} {ops : List HostOp} {s t : State} (hs : s.Coherent) (hr : s.resting)
    (h : accept op (s.setRequests ops) = .update t) : t.Coherent := by
  obtain ⟨r, rfl⟩ | ⟨c, -, hc, rfl⟩ | ⟨hi, b, p, a, o, hb, rfl⟩ :=
    accept_cases (s := s.setRequests ops) hr h
  · exact hs.congr rfl rfl rfl
  · exact (State.coherent_of_busy (b := .init .csnHigh) rfl).mpr ⟨rfl, hc⟩
  · have configured : s.configured = true := by
      obtain hp | hp := hr
      · simp [(State.coherent_of_uninit hp).mp hs] at hi
      · exact ((State.coherent_of_idle hp).mp hs).2
    have notInit : (Phase.busy b).isInit = false := Busy.isStart_isInit hb
    exact (State.coherent_of_busy (b := b) rfl).mpr ⟨by rw [notInit]; exact hi, configured⟩

/-- Every step keeps coherence (10_state R25, R29, R30). -/
theorem step_keeps_coherent {s t : State} (hs : s.Coherent) (h : step s = .next t) : t.Coherent := by
  cases step_next h with
  | waits rest => exact hs
  | accepts rest asked taken => exact accept_keeps_coherent hs rest taken
  | stops frame phase => exact State.coherent_of_faulted phase
  | ends frame phase flag => exact hs.afterError frame.cfg phase flag
  | runs running next frame phase flag =>
    exact next.coherent (phase.trans running) (hs.congr phase flag frame.cfg)

/-- Settles O53: every step keeps coherence, by the cases of `StepNext`; a coherent running operation has latched its
configuration. -/
theorem coherenceKept : Obligations.CoherenceKept := by
  intro s hs
  refine ⟨fun b hb => ?_, fun t ht => step_keeps_coherent hs ht⟩
  obtain ⟨c, hc, ha⟩ := hs.latched hb
  exact ⟨c, hc, State.config_eq hc, ha⟩

end Sys2Proof.Machine
end

section
/-! SUPPORT. The proof that the acknowledgment buffer fits (10_state R33). -/

namespace Sys2Proof.Machine

/-- Leaving, emptying or filling the buffer keeps its 32 bytes and its length within them: the read's bytes replace as
many of the old ones (44_receive_and_queries R302). -/
theorem State.AckNext.fits {s t : State} (h : s.AckNext t) (hs : s.BufferFits) :
    t.ackBuf.length = 32 ∧ t.ackLen ≤ 32 := by
  obtain ⟨hbuf, hlen, hwidth⟩ := hs
  cases h with
  | same buf len => exact ⟨buf ▸ hbuf, len ▸ hlen⟩
  | emptied buf len => exact ⟨buf ▸ hbuf, by omega⟩
  | stored data pending buf len =>
    obtain ⟨-, hw⟩ := hwidth _ pending
    refine ⟨?_, by omega⟩
    rw [buf, List.length_append, List.length_drop]
    omega

/-- A buffer that fits and is left alone fits, where a width about to be read fits. -/
theorem State.BufferFits.frame {s t : State} (hs : s.BufferFits) (buf : t.ackBuf = s.ackBuf)
    (len : t.ackLen = s.ackLen) (width : t.phase.WidthFits) : t.BufferFits := by
  obtain ⟨hbuf, hlen, -⟩ := hs
  exact ⟨buf ▸ hbuf, len ▸ hlen, width⟩

theorem State.BufferFits.widthFits {s : State} (hs : s.BufferFits) : s.phase.WidthFits := hs.2.2

/-- Whatever a running operation does, the buffer fits. -/
theorem BusyNext.bufferFits {b : Busy} {s t : State} (h : BusyNext b s t) (hs : s.BufferFits) : t.BufferFits := by
  cases h with
  | goesOn keep ack kind width =>
    obtain ⟨hbuf, hlen⟩ := ack.fits hs
    exact ⟨hbuf, hlen, width⟩
  | returns r keep ack kind =>
    obtain ⟨hbuf, hlen⟩ := ack.fits hs
    exact ⟨hbuf, hlen, Phase.widthFits_of_none rfl⟩
  | initEnds ok kind => exact hs.frame rfl rfl (Phase.widthFits_of_none (by cases ok <;> rfl))
  | commits r commit => exact hs.frame rfl rfl (Phase.widthFits_of_none rfl)
  | stops c => exact hs.frame rfl rfl (Phase.widthFits_of_none rfl)

theorem Phase.afterError_pendingWidth (p : Phase) : p.afterError.pendingWidth = none := by
  cases p with
  | busy b => cases b <;> rfl
  | uninit | idle | faulted c => rfl

theorem Busy.isStart_pendingWidth {b : Busy} (h : b.isStart = true) : (Phase.busy b).pendingWidth = none := by
  cases b with
  | transmit st => cases st <;> simp_all [Busy.isStart, Phase.pendingWidth]
  | receive rs => cases rs <;> simp_all [Busy.isStart, Phase.pendingWidth]
  | _ => rfl

/-- Taking a host operation leaves the buffer, and no operation starts with a read of a payload. -/
theorem accept_keeps_bufferFits {op : HostOp} {ops : List HostOp} {s t : State} (hs : s.BufferFits)
    (hr : s.resting) (h : accept op (s.setRequests ops) = .update t) : t.BufferFits := by
  obtain ⟨r, rfl⟩ | ⟨c, -, -, rfl⟩ | ⟨-, b, p, a, o, hb, rfl⟩ :=
    accept_cases (s := s.setRequests ops) hr h
  · exact hs.frame rfl rfl hs.widthFits
  · exact hs.frame rfl rfl (Phase.widthFits_of_none rfl)
  · exact hs.frame rfl rfl (Phase.widthFits_of_none (Busy.isStart_pendingWidth hb))

/-- Every step keeps the buffer (10_state R33). -/
theorem step_keeps_bufferFits {s t : State} (hs : s.BufferFits) (h : step s = .next t) : t.BufferFits := by
  cases step_next h with
  | waits rest => exact hs
  | accepts rest asked taken => exact accept_keeps_bufferFits hs rest taken
  | stops frame phase =>
    exact hs.frame frame.ackBuf frame.ackLen (Phase.widthFits_of_none (by rw [phase]; rfl))
  | ends frame phase flag =>
    exact hs.frame frame.ackBuf frame.ackLen
      (Phase.widthFits_of_none (by rw [phase, Phase.afterError_pendingWidth]))
  | runs running next frame phase flag =>
    exact next.bufferFits (hs.frame frame.ackBuf frame.ackLen (phase ▸ hs.widthFits))

/-- Settles O54: every step keeps the buffer, by the cases of `StepNext`. -/
theorem bufferKept : Obligations.BufferKept :=
  fun _ _ hs h => step_keeps_bufferFits hs h

end Sys2Proof.Machine
end

section
/-! SUPPORT. Who writes the statistics, the configuration, the status latch, the parameters and the clock, and the
bounds of the statistics (10_state R23, R28, R30, R32; 45_link_quality). -/

namespace Sys2Proof.Machine

/-! ## A running operation -/

/-- A running operation writes neither the configuration nor, outside a transaction, the status latch, and the clock
only goes on. -/
theorem BusyNext.frame {b : Busy} {s t : State} (h : BusyNext b s t) :
    t.cfg = s.cfg ∧ t.lastStatus = s.lastStatus ∧ t.params = s.params ∧ s.env.now ≤ t.env.now := by
  cases h with
  | goesOn keep ack kind width => exact ⟨keep.cfg, keep.lastStatus, keep.params, keep.clock⟩
  | returns r keep ack kind => exact ⟨keep.cfg, keep.lastStatus, keep.params, keep.clock⟩
  | initEnds ok kind => exact ⟨rfl, rfl, rfl, le_rfl⟩
  | commits r commit => exact ⟨rfl, rfl, rfl, le_rfl⟩
  | stops c => exact ⟨rfl, rfl, rfl, le_rfl⟩

/-- A running operation writes the statistics at ACCOUNT's commit only (45_link_quality R347, R348). -/
theorem BusyNext.stats {b : Busy} {s t : State} (h : BusyNext b s t) :
    t.stats = s.stats ∨ ∃ r, b = .transmit (.commit r) ∧ t.stats = (s.account s.config r).stats := by
  cases h with
  | goesOn keep ack kind width => exact .inl keep.stats
  | returns r keep ack kind => exact .inl keep.stats
  | initEnds ok kind => exact .inl rfl
  | commits r commit => exact .inr ⟨r, commit, rfl⟩
  | stops c => exact .inl rfl

/-! ## Taking a host operation -/

/-- Taking a host operation writes none of them but the configuration, and that only for INITIALIZE. -/
theorem accept_frame {op : HostOp} {ops : List HostOp} {s t : State} (hr : s.resting)
    (h : accept op (s.setRequests ops) = .update t) :
    t.stats = s.stats ∧ t.lastStatus = s.lastStatus ∧ t.params = s.params ∧ t.env = s.env ∧
      (t.cfg = s.cfg ∨ ∃ c, op = .init c ∧ t.cfg = some c) := by
  obtain ⟨r, rfl⟩ | ⟨c, hop, -, rfl⟩ | ⟨-, b, p, a, o, -, rfl⟩ :=
    accept_cases (s := s.setRequests ops) hr h
  · exact ⟨rfl, rfl, rfl, rfl, .inl rfl⟩
  · exact ⟨rfl, rfl, rfl, rfl, .inr ⟨c, hop, rfl⟩⟩
  · exact ⟨rfl, rfl, rfl, rfl, .inl rfl⟩

/-! ## The step -/

section Writers

variable {s t : State} (h : step s = .next t)
include h

/-- A step writes the statistics at ACCOUNT's commit only, and then as it says. -/
theorem step_stats :
    t.stats = s.stats ∨ ∃ r, s.phase = .busy (.transmit (.commit r)) ∧ t.stats = (s.account s.config r).stats := by
  cases step_next h with
  | waits rest => exact .inl rfl
  | accepts rest asked taken =>
    obtain ⟨hs, -⟩ := accept_frame rest taken
    exact .inl hs
  | stops frame phase => exact .inl frame.stats
  | ends frame phase flag => exact .inl frame.stats
  | runs running next frame phase flag =>
    obtain hs | ⟨r, rfl, hs⟩ := next.stats
    · exact .inl (hs.trans frame.stats)
    · refine .inr ⟨r, running, ?_⟩
      simpa [State.account, State.config, frame.stats, frame.cfg] using hs

/-- A step writes the configuration when it takes an INITIALIZE only, and then its operand (42_configuration R211). -/
theorem step_cfg : t.cfg = s.cfg ∨ s.resting ∧ ∃ c ops, s.requests = .init c :: ops ∧ t.cfg = some c := by
  cases step_next h with
  | waits rest => exact .inl rfl
  | accepts rest asked taken =>
    obtain ⟨-, -, -, -, hc | ⟨c, rfl, hc⟩⟩ := accept_frame rest taken
    · exact .inl hc
    · exact .inr ⟨rest, c, _, asked, hc⟩
  | stops frame phase => exact .inl frame.cfg
  | ends frame phase flag => exact .inl frame.cfg
  | runs running next frame phase flag =>
    obtain ⟨hc, -⟩ := next.frame
    exact .inl (hc.trans frame.cfg)

/-- A step writes the status latch at a transaction only (10_state R28). -/
theorem step_lastStatus : t.lastStatus = s.lastStatus ∨ ∃ i s', nextMicro s = .command i s' := by
  cases step_next h with
  | waits rest => exact .inl rfl
  | accepts rest asked taken =>
    obtain ⟨-, hl, -⟩ := accept_frame rest taken
    exact .inl hl
  | stops frame phase => exact frame.status
  | ends frame phase flag => exact frame.status
  | runs running next frame phase flag =>
    obtain ⟨-, hl, -⟩ := next.frame
    rw [hl]
    exact frame.status

/-- A step changes no parameter, and the clock never goes back (00_scope R7; 10_state R23). -/
theorem step_params_clock : t.params = s.params ∧ s.env.now ≤ t.env.now := by
  cases step_next h with
  | waits rest => exact ⟨rfl, le_rfl⟩
  | accepts rest asked taken =>
    obtain ⟨-, -, hp, he, -⟩ := accept_frame rest taken
    exact ⟨hp, he ▸ le_rfl⟩
  | stops frame phase => exact ⟨frame.params, frame.clock.ge⟩
  | ends frame phase flag => exact ⟨frame.params, frame.clock.ge⟩
  | runs running next frame phase flag =>
    obtain ⟨-, -, hp, hn⟩ := next.frame
    exact ⟨hp.trans frame.params, frame.clock ▸ hn⟩

end Writers

/-- Settles O59, register by register. -/
theorem registerWriters : Obligations.RegisterWriters := by
  intro s t h
  refine ⟨fun hne => ?_, fun hne => ?_, fun hne => ?_, step_params_clock h⟩
  · obtain ⟨r, hp, -⟩ := (step_stats h).resolve_left hne
    exact ⟨r, hp⟩
  · exact (step_cfg h).resolve_left hne
  · exact (step_lastStatus h).resolve_left hne

/-! ## The bounds of the statistics -/

/-- Q is a percentage (45_link_quality R346). -/
theorem quality_le (sent lost : Nat) : quality sent lost ≤ 100 := by
  unfold quality
  split
  · omega
  · exact Nat.div_le_of_le_mul (by omega)

/-- Charging one attempt keeps the window open: the counter grows by the charge, or the window closes and it returns
to 0 (45_link_quality R341, R345). -/
theorem account_windowOpen {s : State} {c : RadioConfiguration} (r : Option Nat) (hs : s.WindowOpen c) :
    (s.account c r).WindowOpen c := by
  obtain ⟨-, hdvd⟩ := hs
  unfold State.WindowOpen State.account closeWindow Config.windowFactor attemptCharge
  rw [State.setStats_stats]
  split
  · exact ⟨Nat.mul_pos (by decide) c.retransmitCount.succ_pos, dvd_zero _⟩
  · next hopen => exact ⟨Nat.lt_of_not_ge hopen, Nat.dvd_add hdvd (dvd_refl _)⟩

theorem account_quality_le (s : State) (c : RadioConfiguration) (r : Option Nat) (hs : s.stats.quality ≤ 100) :
    (s.account c r).stats.quality ≤ 100 := by
  simp only [State.account, State.setStats_stats, closeWindow]
  split
  · exact quality_le _ _
  · exact hs

/-- Settles O58: only ACCOUNT's commit writes the statistics, and it keeps both bounds. -/
theorem statisticsBounded : Obligations.StatisticsBounded := by
  intro s t h
  obtain he | ⟨r, -, he⟩ := step_stats h
  · exact ⟨fun c _ hw => by rwa [State.WindowOpen, he], fun hq => by rwa [he]⟩
  · refine ⟨fun c hc hw => ?_, fun hq => by rw [he]; exact account_quality_le s _ r hq⟩
    rw [State.config_eq hc] at he
    rw [State.WindowOpen, he]
    exact account_windowOpen r hw

end Sys2Proof.Machine
end

section
/-! SUPPORT. Status decoding, the commands a step runs, and power-on (10_state R25, R26, R27, R40). -/

namespace Sys2Proof.Machine

/-- At the spec's positions decode_status reads bits 0 to 6 only (10_state R27). -/
theorem decodeStatus_default_congr {x y : Byte} (h : ∀ i < 7, x.getLsbD i = y.getLsbD i) :
    decodeStatus .default x = decodeStatus .default y := by
  have pipe : x.extractLsb' 1 3 = y.extractLsb' 1 3 := by
    refine BitVec.eq_of_getLsbD_eq fun i hi => ?_
    rw [BitVec.getLsbD_extractLsb', BitVec.getLsbD_extractLsb', h (1 + i) (by omega)]
  change StatusSnapshot.mk ⟨x.getLsbD 6, x.getLsbD 5, x.getLsbD 4⟩ (x.extractLsb' 1 3) (x.getLsbD 0) = _
  rw [h 6 (by omega), h 5 (by omega), h 4 (by omega), h 0 (by omega), pipe]
  rfl

/-- Settles O12: every field is read at its own position, none of them bit 7. -/
theorem statusDecoding : Obligations.StatusDecoding := by
  intro b
  refine ⟨rfl, rfl, rfl, ?_, rfl, ?_⟩
  · change (b.extractLsb' 1 3).toNat = _
    rw [BitVec.extractLsb'_toNat, Nat.shiftRight_eq_div_pow]
  · refine decodeStatus_default_congr fun i hi => ?_
    have bit7 : ∀ i < 7, (0x80 : Byte).getLsbD i = false := by decide
    rw [BitVec.getLsbD_xor, bit7 i hi, Bool.xor_false]

/-! ## The commands a step runs -/

/-- A transaction begun with no operation running starts none. -/
theorem exec_not_busy {i : Instr} {s t : State} (hr : s.resting) (h : exec i s = .next t) (b : Busy) :
    t.phase ≠ .busy b := by
  rw [exec_eq_transact] at h
  cases h
  obtain ⟨-, he⟩ | ⟨-, m, f, md, fd, tr, ls, rx, he⟩ | ⟨-, he⟩ :=
    s.transact_cases (commandByte s.params i) (transferOf i)
  · simp [he]
  · simpa [he] using s.phase.afterError_ne_busy b
  · rw [he]
    exact hr.not_busy b

/-- At rest a window asked of the channel is the next micro-step. -/
theorem nextMicro_channelCall {s : State} {w : List Byte} {i : Instr} (hr : s.resting) (hc : s.channelCall = some w)
    (hd : decode s.params w = .ok i) : nextMicro s = .command i (s.setChannelCall none) := by
  obtain hp | hp := hr <;> simp [nextMicro, hp, restMicro, hc, hd]

/-- At rest a window asked of the channel runs as the command it decodes to, and nothing is added. -/
theorem step_of_channelCall {s : State} {w : List Byte} {i : Instr} (hr : s.resting) (hc : s.channelCall = some w)
    (hd : decode s.params w = .ok i) : step s = exec i (s.setChannelCall none) := by
  have he := exec_eq_transact i (s.setChannelCall none)
  simp only [step, nextMicro_channelCall hr hc hd, he]
  rw [resume_of_not_busy (exec_not_busy (s := s.setChannelCall none) hr he)]

/-- Settles O22: the window is the next micro-step, and with no operation running nothing follows its transaction. -/
theorem stepRunsRequestedCommand : Obligations.StepRunsRequestedCommand :=
  fun _ _ _ hr hc hd => step_of_channelCall hr hc hd

/-- The decoder reads CMD and REG only. -/
theorem decode_congr {p q : Params} (hc : p.cmd = q.cmd) (hr : p.reg = q.reg) (w : List Byte) :
    decode p w = decode q w := by
  cases w with
  | nil => rfl
  | cons b ds => simp only [decode, hc, hr]

theorem State.atRest_resting (s : State) : s.atRest.resting := by
  unfold State.atRest
  split
  · next hp => exact .inl hp
  · next hp => exact .inr hp
  all_goals cases s.initialized <;> simp [State.resting]

theorem State.atRest_params (s : State) : s.atRest.params = s.params := by
  unfold State.atRest
  split <;> rfl

theorem State.resting.atRest_eq {s : State} (hr : s.resting) : s.atRest = s := by
  obtain hp | hp := hr <;> simp [State.atRest, hp]

/-- Settles O23: the placed window decodes to the instruction, at rest. -/
theorem stepRunsPlacedWord : Obligations.StepRunsPlacedWord := by
  intro s nbits w i hc hr hd
  refine ⟨?_, State.resting.atRest_eq⟩
  have decoded : decode s.atRest.params (tableWindow nbits w) = .ok i := by
    rw [s.atRest_params, decode_congr (q := .default) hc hr]
    unfold decodeTableWord at hd
    cases hw : decode .default (tableWindow nbits w) <;> simp_all [Except.toOption]
  exact step_of_channelCall (s := s.withFetchWord nbits w) s.atRest_resting rfl decoded

/-- Settles O24, from what a step and its continuation are in each phase. -/
theorem stepRunsOperationCommand : Obligations.StepRunsOperationCommand := by
  intro s t b i hp hm he
  refine ⟨?_, resume_of_busy, resume_of_not_busy⟩
  simp only [step, nextMicro, hp, hm, he]

/-! ## Power-on -/

/-- Settles O60: no operation runs, no configuration is latched, the counters are 0 (10_state R40). -/
theorem powerOnMeetsInvariants : Obligations.PowerOnMeetsInvariants := by
  intro csn ce p
  refine ⟨rfl, ⟨List.length_replicate, Nat.zero_le _, Phase.widthFits_of_none rfl⟩, ?_, fun _ => rfl, ?_, ?_, ?_⟩
  · exact .inr (.inr ⟨rfl, .inl rfl⟩)
  · intro h
    cases h
  · exact Nat.zero_le _
  · exact fun c => ⟨Nat.mul_pos (by decide) c.retransmitCount.succ_pos, dvd_zero _⟩

end Sys2Proof.Machine
end

section
/-! SUPPORT. The encoder: how long a command's window is, which bits its command byte has and which bytes it sends
(30_encoding R100..R108, R112). -/

namespace Sys2Proof

/-! ## Lengths -/

theorem payloadAdmits_iff {n : Nat} : payloadAdmits n = true ↔ 1 ≤ n ∧ n ≤ 32 := by
  rw [payloadAdmits, Bool.and_eq_true, decide_eq_true_iff, decide_eq_true_iff, Config.maxPayload]

theorem Reg.admits_iff {r : Reg} {n : Nat} : r.admits n = true ↔ r.minSize ≤ n ∧ n ≤ r.maxSize := by
  simp [Reg.admits]

/-- The address registers take 3, 4 or 5 bytes, every other register one (20_memory R63, R82). -/
theorem Reg.admitted_lengths {r : Reg} {n : Nat} (h : r.admits n = true) :
    (r ≠ .txAddr → r ≠ .rxAddrP0 → r ≠ .rxAddrP1 → n = 1) ∧
    ((r = .txAddr ∨ r = .rxAddrP0 ∨ r = .rxAddrP1) → 3 ≤ n ∧ n ≤ 5) := by
  rw [Reg.admits_iff] at h
  constructor
  · intro tx p0 p1
    simp only [Reg.minSize, Reg.maxSize] at h
    omega
  · rintro (rfl | rfl | rfl) <;> exact h

/-- Settles O7: the encoding is the command byte and the data block, whose length a well-formed command bounds. -/
theorem transactionLengths : Obligations.TransactionLengths := by
  intro p i h
  cases i with
  | read r n => exact ⟨congrArg (· :: _) (Machine.composeCommand_read p.reg r), Reg.admitted_lengths h⟩
  | write r v => exact ⟨rfl, Reg.admitted_lengths h⟩
  | readPayload n => exact ⟨rfl, payloadAdmits_iff.mp h⟩
  | writePayload d => exact ⟨rfl, payloadAdmits_iff.mp h⟩
  | writePayloadNoAck d => exact ⟨rfl, payloadAdmits_iff.mp h⟩
  | writeAckPayload q d => exact ⟨rfl, payloadAdmits_iff.mp h⟩
  | flushTx | flushRx | reuseTxPayload | readPayloadWidth | nop => rfl

/-! ## Command bytes -/

/-- The row a register access of this kind matches. -/
def AccessKind.opcode : AccessKind → Opcode
  | .read => .read
  | .write => .write

/-- The tag is in bits 7:5 and the address in bits 4:0 (30_encoding R105). -/
theorem AccessKind.byte_fields (k : AccessKind) (a : BitVec 5) :
    (k.code ||| a.setWidth 8) &&& 0xE0 = k.code ∧ (k.code ||| a.setWidth 8).extractLsb' 0 5 = a := by
  revert a
  cases k <;> decide

/-- A register access's row matches its tag at any address, named or not. -/
theorem AccessKind.row_matches (c : CommandSet) (k : AccessKind) (a : BitVec 5) :
    (k.opcode.row c).matches (k.code ||| a.setWidth 8) = true := by
  cases k <;> exact beq_iff_eq.mpr (AccessKind.byte_fields _ a).1

theorem extractLsb'_composeCommand (m : RegisterMap) (r : Reg) (k : AccessKind) :
    (composeCommand m r k).extractLsb' 0 5 = r.addr m :=
  (k.byte_fields (r.addr m)).2

theorem extractLsb'_composeAckCommand (c : CommandSet) (q : Pipe) :
    (composeAckCommand c q).extractLsb' 0 3 = q.index := by
  change (c.writeAckPayload.setWidth 8 <<< 3 ||| q.index.setWidth 8).extractLsb' 0 3 = q.index
  generalize c.writeAckPayload = tag
  revert tag
  cases q <;> decide

/-- Settles O3: each composed byte by its fields, the map row by row. -/
theorem composedCommandBytes : Obligations.ComposedCommandBytes :=
  ⟨fun m r => ⟨Machine.composeCommand_read m r, rfl, (AccessKind.read.byte_fields (r.addr m)).1,
      (AccessKind.write.byte_fields (r.addr m)).1, extractLsb'_composeCommand m r .read,
      extractLsb'_composeCommand m r .write⟩,
    fun _ => rfl, rfl⟩

end Sys2Proof

namespace Sys2Proof.Machine

/-- A window sends its command byte, then its data block (41_channel R192). -/
theorem sentBytes_windowEvents (cmd st : Byte) (sent received : List Byte) :
    sentBytes (windowEvents cmd st sent received) = cmd :: sent := by
  unfold windowEvents
  split <;> simp_all [sentBytes]

/-- Settles O21: the completed window is the command byte and the data block, which are the encoding. -/
theorem windowCarriesEncoding : Obligations.WindowCarriesEncoding :=
  fun _ _ hc h => ⟨_, _, exec_completes hc h, rfl, sentBytes_windowEvents _ _ _ _⟩

end Sys2Proof.Machine
end

section
/-! SUPPORT. The command table and the register map (30_encoding R104; 20_memory R63): which bytes a row matches, which
byte a matched row and its field make, and that the spec's own values can be read back. -/

namespace Sys2Proof

/-! ## The table -/

/-- A value set can be read back when no two rows' codes agree under both masks and no two registers share an
address. -/
theorem Params.unambiguous_of_table {p : Params}
    (hc : ∀ r₁ ∈ opcodeTable p.cmd, ∀ r₂ ∈ opcodeTable p.cmd, r₁.code &&& r₂.mask = r₂.code &&& r₁.mask → r₁ = r₂)
    (hr : ∀ r₁ ∈ Reg.all, ∀ r₂ ∈ Reg.all, r₁.addr p.reg = r₂.addr p.reg → r₁ = r₂) : p.Unambiguous :=
  ⟨fun _ r₁ h₁ r₂ h₂ m₁ m₂ => hc r₁ h₁ r₂ h₂ (OpcodeRow.codes_agree m₁ m₂),
    fun r₁ r₂ h => hr r₁ r₁.mem_all r₂ r₂.mem_all h⟩

/-- The spec's value set can be read back (30_encoding R111). -/
theorem Params.default_unambiguous : Params.default.Unambiguous :=
  Params.unambiguous_of_table (by decide) (by decide)

/-- Settles O4: the rows by evaluation, that they are told apart by their codes under the masks. -/
theorem commandTableRowsDisjoint : Obligations.CommandTableRowsDisjoint :=
  ⟨rfl, Params.default_unambiguous⟩

/-- The bytes a row matches lie between its code and its code with the unmasked bits set. -/
theorem OpcodeRow.bounds_of_matches {r : OpcodeRow} {b : Byte} (h : r.matches b = true) :
    r.code ≤ b ∧ b ≤ r.code ||| ~~~r.mask := by
  have hb : b &&& r.mask = r.code := beq_iff_eq.mp h
  have hor : r.code ||| ~~~r.mask = b ||| ~~~r.mask := by
    rw [← hb]
    ext i
    simp only [BitVec.getElem_or, BitVec.getElem_and, BitVec.getElem_not]
    cases b[i] <;> cases r.mask[i] <;> rfl
  constructor
  · rw [← hb, BitVec.le_def, BitVec.toNat_and]
    exact Nat.and_le_left
  · rw [hor, BitVec.le_def, BitVec.toNat_or]
    exact Nat.left_le_or

/-- The row found is one the byte matches. -/
theorem matches_of_opcodeOf? {c : CommandSet} {b : Byte} {op : Opcode} (h : opcodeOf? c b = some op) :
    (op.row c).matches b = true := by
  obtain ⟨r, hf, rfl⟩ := Option.map_eq_some_iff.mp h
  obtain ⟨op', -, rfl⟩ := List.mem_map.mp (List.mem_of_find?_eq_some hf)
  exact List.find?_some (p := fun r : OpcodeRow => r.matches b) hf

/-- A byte of format F is its row's code (30_encoding R103). -/
theorem eq_code_of_opcodeOf? {c : CommandSet} {b : Byte} {op : Opcode} (hm : op.mask = 0xFF)
    (h : opcodeOf? c b = some op) : b = op.code c := by
  have := matches_of_opcodeOf? h
  simpa only [OpcodeRow.matches, Opcode.row, hm, show (0xFF : Byte) = BitVec.allOnes 8 from rfl, BitVec.and_allOnes,
    beq_iff_eq] using this

/-- A byte is its bits from `n` up and its low `n` bits. -/
theorem and_or_low_bits {b mask : Byte} {n : Nat} (hm : ∀ i < 8, mask.getLsbD i = decide (n ≤ i)) :
    b &&& mask ||| (b.extractLsb' 0 n).setWidth 8 = b := by
  refine BitVec.eq_of_getLsbD_eq fun i hi => ?_
  simp only [BitVec.getLsbD_or, BitVec.getLsbD_and, BitVec.getLsbD_setWidth, BitVec.getLsbD_extractLsb', hm i hi, hi,
    Nat.zero_add, decide_true, Bool.true_and]
  by_cases h : n ≤ i
  · simp [h, Nat.not_lt.mpr h]
  · simp [h, Nat.lt_of_not_le h]

/-! ## Registers and pipes -/

theorem Reg.addr_of_ofAddr? {m : RegisterMap} {a : BitVec 5} {r : Reg} (h : Reg.ofAddr? m a = some r) :
    r.addr m = a :=
  beq_iff_eq.mp (List.find?_some (p := fun r : Reg => r.addr m == a) h)

theorem Pipe.index_of_ofIndex? {a : BitVec 3} {q : Pipe} (h : Pipe.ofIndex? a = some q) : q.index = a :=
  beq_iff_eq.mp (List.find?_some (p := fun q : Pipe => q.index == a) h)

/-- Where no address names two registers, a register's address names it (20_memory R62). -/
theorem Reg.ofAddr?_addr {p : Params} (h : p.Unambiguous) (r : Reg) : Reg.ofAddr? p.reg (r.addr p.reg) = some r := by
  cases hf : Reg.ofAddr? p.reg (r.addr p.reg) with
  | none => exact absurd (beq_self_eq_true _) (List.find?_eq_none.mp hf r r.mem_all)
  | some r' => rw [h.2 _ _ (Reg.addr_of_ofAddr? hf)]

theorem Pipe.ofIndex?_index (q : Pipe) : Pipe.ofIndex? q.index = some q := by
  cases q <;> rfl

/-- A byte of a register access's row whose address field names a register is that access's command byte
(30_encoding R105). -/
theorem eq_composeCommand_of_matches {c : CommandSet} {m : RegisterMap} {k : AccessKind} {b : Byte} {r : Reg}
    (hb : (k.opcode.row c).matches b = true) (hr : Reg.ofAddr? m (b.extractLsb' 0 5) = some r) :
    b = composeCommand m r k := by
  have tag : b &&& 0xE0 = k.code := by cases k <;> exact beq_iff_eq.mp hb
  rw [composeCommand, Reg.addr_of_ofAddr? hr, ← tag, and_or_low_bits (by decide)]

/-- A byte of WRITE_ACK_PAYLOAD's row whose index field names a pipe is that pipe's command byte (30_encoding R106). -/
theorem eq_composeAckCommand_of_matches {c : CommandSet} {b : Byte} {q : Pipe}
    (hb : (Opcode.writeAckPayload.row c).matches b = true) (hq : Pipe.ofIndex? (b.extractLsb' 0 3) = some q) :
    b = composeAckCommand c q := by
  have tag : b &&& 0xF8 = Opcode.writeAckPayload.code c := beq_iff_eq.mp hb
  rw [composeAckCommand, Pipe.index_of_ofIndex? hq, ← tag, and_or_low_bits (by decide)]

end Sys2Proof
end

section
/-! SUPPORT. The decoder (30_encoding R110, R111): what each of its parts accepts, the two directions of the round trip,
and what it refuses at the spec's values. -/

namespace Sys2Proof

/-! ## The decoder's parts -/

theorem decodeExact_eq_ok {b : Byte} {d : Nat} {i j : Instr} {ds : List Byte} :
    decodeExact b d i ds = .ok j ↔ ds.length = d ∧ i = j := by
  unfold decodeExact
  split <;> simp [*]

theorem decodePayload_eq_ok {b : Byte} {d : Nat} {i j : Instr} :
    decodePayload b d i = .ok j ↔ payloadAdmits d = true ∧ i = j := by
  unfold decodePayload
  split <;> simp [*]

theorem decodeRegister_eq_ok {m : RegisterMap} {b : Byte} {mk : Reg → Instr} {d : Nat} {j : Instr} :
    decodeRegister m b mk d = .ok j ↔
      ∃ r, Reg.ofAddr? m (b.extractLsb' 0 5) = some r ∧ r.admits d = true ∧ mk r = j := by
  unfold decodeRegister
  cases Reg.ofAddr? m (b.extractLsb' 0 5) with
  | none => simp
  | some r =>
    by_cases h : r.admits d = true <;> simp [h]

/-- A composed register access of an admitted length is read as that access. -/
theorem decodeRegister_composeCommand {p : Params} (h : p.Unambiguous) {r : Reg} {k : AccessKind} {mk : Reg → Instr}
    {d : Nat} (hd : r.admits d = true) : decodeRegister p.reg (composeCommand p.reg r k) mk d = .ok (mk r) :=
  decodeRegister_eq_ok.mpr ⟨r, by rw [extractLsb'_composeCommand, Reg.ofAddr?_addr h], hd, rfl⟩

/-! ## The round trip -/

/-- In a value set that can be read back the encoder's command byte is read as the command's opcode. -/
theorem opcodeOf?_commandByte {p : Params} (h : p.Unambiguous) (i : Instr) :
    opcodeOf? p.cmd (commandByte p i) = some i.opcode := by
  cases i with
  | read r n => exact Laws.CommandByte.read r n p h
  | write r v => exact Laws.CommandByte.write r v p h
  | readPayload n => exact Laws.CommandByte.readPayload n p h
  | writePayload d => exact Laws.CommandByte.writePayload d p h
  | writePayloadNoAck d => exact Laws.CommandByte.writePayloadNoAck d p h
  | writeAckPayload q d => exact Laws.CommandByte.writeAckPayload q d p h
  | flushTx => exact Laws.CommandByte.flushTx p h
  | flushRx => exact Laws.CommandByte.flushRx p h
  | reuseTxPayload => exact Laws.CommandByte.reuseTxPayload p h
  | readPayloadWidth => exact Laws.CommandByte.readPayloadWidth p h
  | nop => exact Laws.CommandByte.nop p h

/-- Settles O1: the command byte selects the command's own row, whose part of the decoder finds the operands again. -/
theorem decodeOfEncode : Obligations.DecodeOfEncode := by
  intro p i h wf
  have opcode := opcodeOf?_commandByte h i
  cases i with
  | read r n =>
    simp only [encode, decode, opcode, Instr.opcode, dataBlock, List.length_replicate]
    exact decodeRegister_composeCommand h wf
  | write r v =>
    simp only [encode, decode, opcode, Instr.opcode]
    exact decodeRegister_composeCommand h wf
  | writeAckPayload q d =>
    have pipe : Pipe.ofIndex? ((commandByte p (.writeAckPayload q d)).extractLsb' 0 3) = some q := by
      rw [commandByte, extractLsb'_composeAckCommand, Pipe.ofIndex?_index]
    simp only [encode, decode, opcode, Instr.opcode, pipe]
    exact decodePayload_eq_ok.mpr ⟨wf, rfl⟩
  | readPayload n =>
    simp only [encode, decode, opcode, Instr.opcode, dataBlock, List.length_replicate]
    exact decodePayload_eq_ok.mpr ⟨wf, rfl⟩
  | writePayload d | writePayloadNoAck d =>
    simp only [encode, decode, opcode, Instr.opcode]
    exact decodePayload_eq_ok.mpr ⟨wf, rfl⟩
  | flushTx | flushRx | reuseTxPayload | readPayloadWidth | nop =>
    simp only [encode, decode, opcode, Instr.opcode]
    exact decodeExact_eq_ok.mpr ⟨rfl, rfl⟩

/-- What the decoder accepts: a well-formed command, its command byte and a data block of its length, which is the
command's own where the command does not read (30_encoding R111). -/
theorem decode_inversion {p : Params} {b : Byte} {ds : List Byte} {i : Instr} (h : decode p (b :: ds) = .ok i) :
    WellFormed i = true ∧ b = commandByte p i ∧ ds.length = (dataBlock p i).length ∧
      ((Machine.transferOf i).isRead = false → ds = dataBlock p i) := by
  cases hop : opcodeOf? p.cmd b with
  | none => simp [decode, hop] at h
  | some op =>
    have hb := matches_of_opcodeOf? hop
    cases op with
    | read =>
      simp only [decode, hop, decodeRegister_eq_ok] at h
      obtain ⟨r, hr, hd, rfl⟩ := h
      exact ⟨hd, eq_composeCommand_of_matches (k := .read) hb hr, List.length_replicate.symm, nofun⟩
    | write =>
      simp only [decode, hop, decodeRegister_eq_ok] at h
      obtain ⟨r, hr, hd, rfl⟩ := h
      exact ⟨hd, eq_composeCommand_of_matches (k := .write) hb hr, rfl, fun _ => rfl⟩
    | readPayload =>
      simp only [decode, hop, decodePayload_eq_ok] at h
      obtain ⟨hd, rfl⟩ := h
      exact ⟨hd, eq_code_of_opcodeOf? rfl hop, List.length_replicate.symm, nofun⟩
    | writePayload | writePayloadNoAck =>
      simp only [decode, hop, decodePayload_eq_ok] at h
      obtain ⟨hd, rfl⟩ := h
      exact ⟨hd, eq_code_of_opcodeOf? rfl hop, rfl, fun _ => rfl⟩
    | writeAckPayload =>
      simp only [decode, hop] at h
      cases hq : Pipe.ofIndex? (b.extractLsb' 0 3) with
      | none => simp [hq] at h
      | some q =>
        simp only [hq, decodePayload_eq_ok] at h
        obtain ⟨hd, rfl⟩ := h
        exact ⟨hd, eq_composeAckCommand_of_matches hb hq, rfl, fun _ => rfl⟩
    | flushTx | flushRx | reuseTxPayload | nop =>
      simp only [decode, hop, decodeExact_eq_ok] at h
      obtain ⟨hd, rfl⟩ := h
      exact ⟨rfl, eq_code_of_opcodeOf? rfl hop, hd, fun _ => List.length_eq_zero_iff.mp hd⟩
    | readPayloadWidth =>
      simp only [decode, hop, decodeExact_eq_ok] at h
      obtain ⟨hd, rfl⟩ := h
      exact ⟨rfl, eq_code_of_opcodeOf? rfl hop, hd, nofun⟩

/-- The three commands that read. -/
theorem transferOf_isRead_false {i : Instr} (hread : ∀ r n, i ≠ .read r n) (hpayload : ∀ n, i ≠ .readPayload n)
    (hwidth : i ≠ .readPayloadWidth) : (Machine.transferOf i).isRead = false := by
  cases i with
  | read r n => exact absurd rfl (hread r n)
  | readPayload n => exact absurd rfl (hpayload n)
  | readPayloadWidth => exact absurd rfl hwidth
  | _ => rfl

/-- Settles O2, by the inversion of the decoder. -/
theorem decodedCommandIsTheWindow : Obligations.DecodedCommandIsTheWindow := by
  intro p w i h
  cases w with
  | nil => cases h
  | cons b ds =>
    obtain ⟨wf, rfl, len, data⟩ := decode_inversion h
    exact ⟨wf, rfl, congrArg (· + 1) len, fun hread hpayload hwidth =>
      congrArg (commandByte p i :: ·) (data (transferOf_isRead_false hread hpayload hwidth))⟩

/-! ## Refusals at the spec's values -/

/-- A register access of an address that names none is refused as that (30_encoding R110). -/
theorem decode_unnamedRegister {p : Params} (h : p.Unambiguous) {a : BitVec 5} (ha : Reg.ofAddr? p.reg a = none)
    (k : AccessKind) (ds : List Byte) :
    decode p ((k.code ||| a.setWidth 8) :: ds) = .error (.unnamedRegister a) := by
  have opcode := opcodeOf?_of_matches h (k.row_matches p.cmd a)
  cases k <;> simp only [decode, opcode, AccessKind.opcode, decodeRegister, AccessKind.byte_fields, ha]

/-- A command byte in a gap between the rows is refused as that (30_encoding R111). -/
theorem decode_unknownCommand {p : Params} {lo hi b : Byte}
    (gap : ∀ r ∈ opcodeTable p.cmd, r.code ||| ~~~r.mask < lo ∨ hi < r.code) (hb : lo ≤ b ∧ b ≤ hi) (ds : List Byte) :
    decode p (b :: ds) = .error (.unknownCommand b) := by
  have unmatched : ∀ r ∈ opcodeTable p.cmd, ¬ r.matches b = true := by
    intro r hr hm
    have between := OpcodeRow.bounds_of_matches hm
    have outside := gap r hr
    bv_omega
  have noOpcode : opcodeOf? p.cmd b = none := by
    rw [opcodeOf?, List.find?_eq_none.mpr unmatched, Option.map_none]
  simp only [decode, noOpcode]

/-- Settles O6: the tags select the rows whose fields name nothing, and the other bytes lie between the rows. -/
theorem unencodableBytesRefused : Obligations.UnencodableBytesRefused := by
  intro ds
  refine ⟨fun a ha => ?_, fun p hp => ?_, fun b hb => ?_⟩
  · have unnamed : ∀ a ∈ ([0x18, 0x19, 0x1A, 0x1B, 0x1E, 0x1F] : List (BitVec 5)),
        Reg.ofAddr? Params.default.reg a = none := by decide
    have refused := decode_unnamedRegister Params.default_unambiguous (unnamed a ha)
    have readByte : AccessKind.read.code ||| a.setWidth 8 = a.setWidth 8 := BitVec.zero_or
    exact ⟨readByte ▸ refused .read ds, refused .write ds⟩
  · obtain rfl | rfl := hp <;> rfl
  · obtain h | h | h | h | h := hb <;> exact decode_unknownCommand (by decide) h ds

end Sys2Proof
end

section
/-! SUPPORT. The configuration's register values (42_configuration R214..R224): which bits of a mask their fields leave
0, and the bits 20_memory marks reserved. -/

namespace Sys2Proof.Machine

/-! ## Admitted configurations -/

/-- 10_state R31's check is the conjunction of the bounds of R30's table. -/
theorem configAdmitted_iff {c : RadioConfiguration} : configAdmitted c = true ↔
    c.crcWidth ≤ 2 ∧ c.retransmitDelay ≤ 15 ∧ c.retransmitCount ≤ 15 ∧ c.channel ≤ 127 ∧
      c.outputPower ≤ 3 ∧ 1 ≤ c.addressWidth ∧ c.addressWidth ≤ 3 ∧
      c.address.length = c.addressWidth + 2 ∧ c.staticPayloadWidth ≤ 32 := by
  simp only [configAdmitted, Bool.and_eq_true, decide_eq_true_eq, beq_iff_eq, and_assoc]

/-! ## Fields under a mask -/

/-- Values that set no bit of a mask set none when composed by OR (30_encoding R109). -/
theorem or_and_eq_zero {a b m : Byte} (ha : a &&& m = 0) (hb : b &&& m = 0) : (a ||| b) &&& m = 0 := by
  rw [BitVec.and_or_distrib_right, ha, hb, BitVec.or_self]

/-- A field of `w` bits sets no bit of a mask that the field filled with ones leaves 0. -/
theorem field_and_eq_zero {w i : Nat} {m : Byte} (x : BitVec w)
    (ones : (BitVec.allOnes w).setWidth 8 <<< i &&& m = 0) : x.setWidth 8 <<< i &&& m = 0 := by
  rw [← BitVec.and_allOnes (x := x), BitVec.setWidth_and, BitVec.shiftLeft_and_distrib, BitVec.and_assoc, ones]
  exact BitVec.and_zero

theorem bitAt_and_eq_zero {i : Nat} {m : Byte} (v : Bool) (one : bitAt true i &&& m = 0) : bitAt v i &&& m = 0 :=
  field_and_eq_zero (BitVec.ofBool v) one

/-- A number below `2 ^ w` is a field of `w` bits. -/
theorem fieldAt_and_eq_zero {n i : Nat} {m : Byte} (w : Nat) (hn : n < 2 ^ w)
    (ones : (BitVec.allOnes w).setWidth 8 <<< i &&& m = 0) : fieldAt n i &&& m = 0 := by
  have field : BitVec.ofNat 8 n = (BitVec.ofNat w n).setWidth 8 := by
    rw [← BitVec.ofNat_toNat, BitVec.toNat_ofNat, Nat.mod_eq_of_lt hn]
  rw [fieldAt, field]
  exact field_and_eq_zero _ ones

/-! ## Reserved bits at the spec's field positions -/

theorem configValue_reserved (c : RadioConfiguration) : configValue .default c &&& reservedBits .config = 0 :=
  have irqMask := field_and_eq_zero c.irqMask (by decide)
  have crc := field_and_eq_zero (crcBits .default c.crcWidth) (by decide)
  have powerUp := bitAt_and_eq_zero c.powerUp (by decide)
  have primRx := bitAt_and_eq_zero (c.mode == .receiver) (by decide)
  or_and_eq_zero (or_and_eq_zero (or_and_eq_zero irqMask crc) powerUp) primRx

theorem rateBits_reserved (d : DataRate) : rateBits .default d &&& reservedBits .rfSetup = 0 := by
  cases d <;> rfl

theorem rfSetupValue_reserved {c : RadioConfiguration} (power : c.outputPower ≤ 3) :
    rfSetupValue .default c &&& reservedBits .rfSetup = 0 :=
  have wave := bitAt_and_eq_zero c.continuousWave (by decide)
  have power := fieldAt_and_eq_zero 2 (Nat.lt_succ_of_le power) (by decide)
  or_and_eq_zero (or_and_eq_zero wave (rateBits_reserved c.dataRate)) power

theorem featureValue_reserved (c : RadioConfiguration) : featureValue c &&& reservedBits .feature = 0 :=
  have payload := bitAt_and_eq_zero c.dynamicPayload (by decide)
  have ackPayload := bitAt_and_eq_zero c.ackPayload (by decide)
  have ack := bitAt_and_eq_zero c.dynamicAck (by decide)
  or_and_eq_zero (or_and_eq_zero payload ackPayload) ack

/-- Settles O11, register by register: the bounds of R30's table keep each number in its field, no field lies on a
reserved bit, and SETUP_RETR and the address registers have none. -/
theorem reservedBitsWrittenZero : Obligations.ReservedBitsWrittenZero := by
  intro c r admitted
  obtain ⟨-, -, -, channel, power, -, addressWidth, -, payloadWidth⟩ := configAdmitted_iff.mp admitted
  cases r
  case txAddr | rxAddrP0 => exact fun _ _ => BitVec.and_zero
  all_goals refine List.forall_mem_singleton.mpr ?_
  case config => exact configValue_reserved c
  case enAa => exact field_and_eq_zero c.autoAckMask (by decide)
  case enRxaddr => decide
  case setupAw => exact fieldAt_and_eq_zero 2 (Nat.lt_succ_of_le addressWidth) (by decide)
  case setupRetr => exact BitVec.and_zero
  case rfCh => exact fieldAt_and_eq_zero 7 (Nat.lt_succ_of_le channel) (by decide)
  case rfSetup => exact rfSetupValue_reserved power
  case rxPwP0 => exact fieldAt_and_eq_zero 6 (payloadWidth.trans_lt (by decide)) (by decide)
  case dynpd => exact bitAt_and_eq_zero c.dynamicPayload (by decide)
  case feature => exact featureValue_reserved c

end Sys2Proof.Machine
end

section
/-! SUPPORT. The example windows of 40_commands R140..R150 and V-E4. -/

namespace Sys2Proof

/-- At the spec's values a window the encoder sends is read as its command. -/
theorem decode_default_of_encode {w : List Byte} {i : Instr} (wf : WellFormed i = true) (hw : encode .default i = w) :
    decode .default w = .ok i :=
  hw ▸ decodeOfEncode .default i Params.default_unambiguous wf

/-- Settles O5: each window is the encoding of its command, so the round trip at the spec's values reads it. -/
theorem specWindowsDecode : Obligations.SpecWindowsDecode := by
  unfold Obligations.SpecWindowsDecode
  and_intros <;> exact decode_default_of_encode rfl rfl

end Sys2Proof
end

section
/-! SUPPORT. What one step can make of the two pins, said once (`StepPins`), and the proofs that CSN rests at 1 and that
CE is 1 only where 41_channel R191 allows it. -/

namespace Sys2Proof.Machine

/-! ## The vocabulary -/

/-- The one micro-step of a running operation that writes CSN (42_configuration R213). -/
def Busy.drivesCsn : Busy → Bool
  | .init .csnHigh => true
  | _ => false

/-- Wherever CE may be 1 in `p`, it may be 1 in `q` (41_channel R191). -/
def Phase.CeCarries (p q : Phase) : Prop :=
  ∀ latched receiver, p.ceMayBeHigh latched receiver = true → q.ceMayBeHigh latched receiver = true

/-- What a running operation can make of CE: keep the level and go to a phase that allows it, lower it, or go to a phase
where the configuration allows it to be 1. -/
inductive CeNext (b : Busy) (s t : State) : Prop where
  | keeps (carries : (Phase.busy b).CeCarries t.phase) (level : t.ce = s.ce := by rfl)
  | lowers (level : t.ce = false)
  | allows (gate : ∀ latched, t.phase.ceMayBeHigh latched (s.config.mode == .receiver) = true)

/-- What a running operation can make of the pins between two transactions, where it never stops as for a nested one.
The fields but CE's are proved by unfolding unless a proof is given. -/
structure PinsNext (b : Busy) (s t : State) : Prop where
  ce : CeNext b s t
  csn : t.csn = (b.drivesCsn || s.csn) := by rfl
  runs : t.phase ≠ .faulted .nestedTransaction := by nofun

/-- From a phase where CE must be 0 every phase is reached with CE 0. -/
theorem Phase.CeCarries.of_low {p q : Phase} (low : ∀ latched receiver, p.ceMayBeHigh latched receiver = false := by
    exact fun _ _ => rfl) : p.CeCarries q :=
  fun latched receiver h => by simp [low latched receiver] at h

/-- Between two phases where CE may be 1 alike, as in a receiver's. -/
theorem Phase.CeCarries.alike {p q : Phase} (same : ∀ latched receiver,
    q.ceMayBeHigh latched receiver = p.ceMayBeHigh latched receiver := by exact fun _ _ => rfl) : p.CeCarries q :=
  fun latched receiver h => (same latched receiver).trans h

/-- The pins keep their levels while CE must be 0. -/
theorem PinsNext.low {b : Busy} {s t : State} (runs : t.phase ≠ .faulted .nestedTransaction := by nofun)
    (low : ∀ latched receiver, (Phase.busy b).ceMayBeHigh latched receiver = false := by exact fun _ _ => rfl)
    (ce : t.ce = s.ce := by rfl) (csn : t.csn = (b.drivesCsn || s.csn) := by rfl) : PinsNext b s t :=
  { ce := .keeps (.of_low low) ce, csn, runs }

/-- The pins keep their levels and the operation stays in its micro-step. -/
theorem PinsNext.stays {b : Busy} {s t : State} (hp : t.phase = .busy b) (ce : t.ce = s.ce := by rfl)
    (csn : t.csn = (b.drivesCsn || s.csn) := by rfl) : PinsNext b s t where
  ce := .keeps (hp ▸ .alike) ce
  csn := csn
  runs := by simp [hp]

/-! ## INITIALIZE -/

/-- INITIALIZE's updates: it raises CSN, lowers CE, and raises CE at its end in receiver mode (42_configuration R213,
R228). -/
theorem initMicro_pins {st : InitStep} {s t : State} (hp : s.phase = .busy (.init st))
    (h : initMicro st s = .update t) : PinsNext (.init st) s t := by
  cases st with
  | csnHigh => cases h; exact { ce := .keeps .alike }
  | ceLow => cases h; exact { ce := .lowers rfl }
  | waitStart => cases h; exact .low
  | waitHold =>
    cases h
    split
    · exact .low
    · exact .stays hp
  | testCompare =>
    cases h
    split
    · exact .low
    · exact .low
  | program rest =>
    cases rest with
    | nil => cases h; exact .low
    | cons r rest => cases h
  | reuse =>
    simp only [initMicro] at h
    split at h
    · cases h
    · cases h; exact .low
  | chipEnable =>
    cases h
    split
    · next receiver => exact { ce := .allows fun _ => beq_iff_eq.mpr receiver }
    · exact .low
  | complete => cases h; exact { ce := .keeps .alike }
  | testRead | testFlip | testReadBack | testRestore | flushTx | flushRx | clearFlags => cases h

/-- INITIALIZE after a transaction: CE stays 0 (42_configuration R213, R225..R227). -/
theorem initResume_pins {st : InitStep} {s : State} (hp : s.phase = .busy (.init st)) (hc : s.csn = true) :
    PinsNext (.init st) s (initResume st s) := by
  cases st with
  | program rest =>
    cases rest with
    | nil => exact .stays hp
    | cons r rest => exact .low
  | testRead | testFlip | testReadBack | testRestore | flushTx | flushRx | clearFlags | reuse => exact .low
  | csnHigh => exact .stays hp (csn := hc)
  | ceLow | waitStart | waitHold | testCompare | chipEnable | complete => exact .stays hp

/-! ## The receive procedure -/

/-- `wrap` and `done` place the receive procedure in an operation that leaves the pins alone. -/
structure ReceivePins (wrap : ReceiveStep → Busy) (done : State → State) : Prop where
  goesOn : ∀ rs rs', (Phase.busy (wrap rs)).CeCarries (.busy (wrap rs'))
  stops : ∀ rs w, (Phase.busy (wrap rs)).CeCarries (.faulted (.widthOutOfRange w))
  csn : ∀ rs, (wrap rs).drivesCsn = false
  done : ∀ {rs s u}, u.csn = s.csn → u.ce = s.ce → PinsNext (wrap rs) s (done u)

theorem receive_receivePins : ReceivePins .receive receiveDone where
  goesOn _ _ := .alike
  stops _ _ := .alike
  csn _ := rfl
  done csn ce := { ce := .keeps .alike ce, csn }

theorem drain_receivePins : ReceivePins drainWrap drainDone where
  goesOn _ _ := .of_low
  stops _ _ := .of_low
  csn _ := rfl
  done csn ce := .low (ce := ce) (csn := csn)

section ReceiveProcedure

variable {wrap : ReceiveStep → Busy} {done : State → State} {rs : ReceiveStep} {s t : State}

theorem ReceivePins.moves (pins : ReceivePins wrap done) (rs' : ReceiveStep) :
    PinsNext (wrap rs) s (s.setPhase (.busy (wrap rs'))) :=
  { ce := .keeps (pins.goesOn rs rs'), csn := by rw [pins.csn]; rfl }

/-- A known width leaves the pins, the fault WIDTH_OUT_OF_RANGE too (44_receive_and_queries R302, R303). -/
theorem widthKnown_pins (pins : ReceivePins wrap done) (w : Nat) :
    PinsNext (wrap rs) s (widthKnown wrap done w s) := by
  obtain ⟨-, he⟩ | ⟨-, he⟩ | ⟨-, -, he⟩ := widthKnown_cases wrap done w s
  · exact he ▸ pins.done rfl rfl
  · exact he ▸ { ce := .keeps (pins.stops rs w), csn := by rw [pins.csn]; rfl }
  · exact he ▸ pins.moves _

/-- The procedure's one update (44_receive_and_queries R302). -/
theorem receiveMicro_pins (pins : ReceivePins wrap done) (h : receiveMicro wrap done rs s = .update t) :
    PinsNext (wrap rs) s t := by
  cases rs with
  | length =>
    simp only [receiveMicro] at h
    split at h
    · cases h
    · cases h; exact widthKnown_pins pins _
  | status | payload w => cases h

/-- The procedure after its transaction (44_receive_and_queries R301, R302). -/
theorem receiveResume_pins (pins : ReceivePins wrap done) : PinsNext (wrap rs) s (receiveResume wrap done rs s) := by
  cases rs with
  | status =>
    simp only [receiveResume]
    split
    · exact pins.moves _
    · exact pins.done rfl rfl
  | length => exact widthKnown_pins pins _
  | payload w => exact pins.done rfl rfl

end ReceiveProcedure

/-! ## TRANSMIT -/

/-- TRANSMIT's updates: CE is raised for PULSE and lowered at its end (43_transmit R254). -/
theorem transmitMicro_pins {st : TransmitStep} {s t : State} (hp : s.phase = .busy (.transmit st))
    (h : transmitMicro st s = .update t) : PinsNext (.transmit st) s t := by
  cases st with
  | pulseRaise => cases h; exact { ce := .allows fun _ => rfl }
  | pulseStamp => cases h; exact { ce := .keeps .alike }
  | pulseHold =>
    cases h
    split
    · exact { ce := .keeps .alike }
    · exact .stays hp
  | pulseLower => cases h; exact { ce := .lowers rfl }
  | pollWaitHold | settleHold =>
    cases h
    split
    · exact .low
    · exact .stays hp
  | pollEnter | pollTime | pollWaitStart | settleStart | commit _ | finish => cases h; exact .low
  | drain rs => exact receiveMicro_pins drain_receivePins h
  | rearm =>
    simp only [transmitMicro] at h
    split at h
    · cases h
    · cases h; exact .low
  | loaded | armedFlush | armedClear | pollRead | settleRead | account => cases h

/-- TRANSMIT after a transaction: CE keeps a receiver's level until PULSE and is 0 after it (43_transmit R252..R261). -/
theorem transmitResume_pins {st : TransmitStep} {s : State} (hp : s.phase = .busy (.transmit st)) :
    PinsNext (.transmit st) s (transmitResume st s) := by
  cases st with
  | loaded | armedFlush | armedClear => exact { ce := .keeps .alike }
  | pollRead | settleRead | account | rearm => exact .low
  | drain rs => exact receiveResume_pins drain_receivePins
  | pulseRaise | pulseStamp | pulseHold | pulseLower | pollEnter | pollTime | pollWaitStart | pollWaitHold
  | settleStart | settleHold | commit _ | finish => exact .stays hp

/-! ## Every operation -/

/-- Everything a running operation's update can make of the pins. -/
theorem busyMicro_pins {b : Busy} {s t : State} (hp : s.phase = .busy b) (h : busyMicro b s = .update t) :
    PinsNext b s t := by
  cases b with
  | init st => exact initMicro_pins hp h
  | transmit st => exact transmitMicro_pins hp h
  | receive rs => exact receiveMicro_pins receive_receivePins h
  | ackFlush _ | ackPreload _ | query _ | setFrequency _ => cases h

/-- Everything a running operation can make of the pins after a transaction, which leaves CSN 1. -/
theorem busyResume_pins {b : Busy} {s : State} (hp : s.phase = .busy b) (hc : s.csn = true) :
    PinsNext b s (busyResume b s) := by
  cases b with
  | init st => exact initResume_pins hp hc
  | transmit st => exact transmitResume_pins hp
  | receive rs => exact receiveResume_pins receive_receivePins
  | ackFlush _ | ackPreload _ | query _ | setFrequency _ => exact { ce := .keeps .alike }

/-- A running operation asks for no transaction in the micro-step that drives CSN. -/
theorem busyMicro_command_drivesCsn {b : Busy} {s s₁ : State} {i : Instr} (h : busyMicro b s = .command i s₁) :
    b.drivesCsn = false := by
  unfold Busy.drivesCsn
  split
  · cases h
  · rfl

/-- A running operation's transactions are run with CE 0 or in receiver mode, and with CE 0 in INITIALIZE (41_channel
R191). -/
theorem busyMicro_command_gate {b : Busy} {s s₁ : State} {i : Instr} (h : busyMicro b s = .command i s₁)
    (latched receiver : Bool) (high : (Phase.busy b).ceMayBeHigh latched receiver = true) :
    receiver = true ∧ (Phase.busy b).isInit = false := by
  cases b with
  | init st =>
    cases st with
    | csnHigh | ceLow | complete => cases h
    | _ => cases high
  | transmit st =>
    cases st with
    | loaded | armedFlush | armedClear => exact ⟨high, rfl⟩
    | pulseRaise | pulseStamp | pulseHold | pulseLower => cases h
    | _ => cases high
  | receive _ | ackFlush _ | ackPreload _ | query _ | setFrequency _ => exact ⟨high, rfl⟩

/-! ## Everything a step can do -/

/-- What an error leaves of a phase other than INITIALIZE's lets CE be 1 in receiver mode (60_exceptions R372). -/
theorem Phase.CeCarries.afterError_of_busy {b : Busy} (gate : ∀ latched receiver,
    (Phase.busy b).ceMayBeHigh latched receiver = true → receiver = true ∧ (Phase.busy b).isInit = false) :
    (Phase.busy b).CeCarries (Phase.busy b).afterError := by
  intro latched receiver high
  obtain ⟨hr, hb⟩ := gate latched receiver high
  cases b with
  | init st => cases hb
  | _ => exact hr

/-- Where a transaction is run, CE may be 1 only if it may be after the fault NESTED_TRANSACTION and after an error
(60_exceptions R372, R373). -/
theorem nextMicro_command_carries {s s₁ : State} {i : Instr} (h : nextMicro s = .command i s₁) :
    s.phase.CeCarries (.faulted .nestedTransaction) ∧ s.phase.CeCarries s.phase.afterError := by
  obtain ⟨hp | hp, -⟩ | ⟨b, hp, hb, -⟩ := nextMicro_command h
  · rw [hp]
    exact ⟨fun latched receiver high => Bool.or_eq_true_iff.mpr (.inr high), .alike⟩
  · rw [hp]
    exact ⟨fun latched receiver high => Bool.or_eq_true_iff.mpr (.inl high), .alike⟩
  · rw [hp]
    have gate := busyMicro_command_gate hb
    exact ⟨fun latched receiver high => Bool.or_eq_true_iff.mpr (.inl (gate latched receiver high).1),
      .afterError_of_busy gate⟩

/-- The pins' levels and the configuration, kept. -/
structure State.PinFrame (s t : State) : Prop where
  csn : t.csn = s.csn := by rfl
  ce : t.ce = s.ce := by rfl
  cfg : t.cfg = s.cfg := by rfl

/-- What an operation makes of the pins after its transaction it makes of the pins before it. -/
theorem State.PinFrame.pinsNext {b : Busy} {s u t : State} (frame : s.PinFrame u) (next : PinsNext b u t) :
    PinsNext b s t where
  ce := match next.ce with
    | .keeps carries level => .keeps carries (level.trans frame.ce)
    | .lowers level => .lowers level
    | .allows gate => .allows (by rwa [State.config, frame.cfg] at gate)
  csn := frame.csn ▸ next.csn
  runs := next.runs

/-- What a running operation makes of the pins after its transaction completed. -/
theorem busyResume_completed_pins {b : Busy} {s : State} (hp : s.phase = .busy b) (high : s.csn = true) (cmd : Byte)
    (sent : List Byte) (reading : Bool) : PinsNext b s (busyResume b (s.completed cmd sent reading)) :=
  State.PinFrame.pinsNext { csn := high.symm } (busyResume_pins (by exact hp) rfl)

/-- Everything a step can make of the pins: the wait at rest, the taking of a host operation, a transaction begun with
CSN 0, a transaction that ends with no operation running, and a micro-step of a running operation, its transaction
before it if it has one (10_state R25, R26). -/
inductive StepPins (s : State) : State → Prop where
  | waits (rest : s.resting) : StepPins s s
  | accepts {t : State} {op : HostOp} {ops : List HostOp} (rest : s.resting)
      (taken : accept op (s.setRequests ops) = .update t) : StepPins s t
  | stops {t : State} {i : Instr} {s₁ : State} (command : nextMicro s = .command i s₁) (low : s.csn = false)
      (frame : s.PinFrame t) (phase : t.phase = .faulted .nestedTransaction) : StepPins s t
  | ends {t : State} {i : Instr} {s₁ : State} (command : nextMicro s = .command i s₁) (high : s.csn = true)
      (frame : s.PinFrame t) (phase : t.phase = s.phase.afterError) : StepPins s t
  | runs {t : State} {b : Busy} (running : s.phase = .busy b) (next : PinsNext b s t) (cfg : t.cfg = s.cfg) :
      StepPins s t

/-- The cases of `step_cases`, each by what it makes of the pins. -/
theorem step_pins {s t : State} (h : step s = .next t) : StepPins s t := by
  obtain hm | ⟨i, s₁, hm, ht⟩ := step_cases h
  · obtain ⟨hr, -, -, rfl⟩ | ⟨hr, -, op, ops, -, ha⟩ | ⟨b, hp, hb⟩ := nextMicro_update hm
    · exact .waits hr
    · exact .accepts hr ha
    · obtain ⟨cfg, -⟩ := (busyMicro_next hp hb).frame
      exact .runs hp (busyMicro_pins hp hb) cfg
  obtain ⟨hr, rfl, -⟩ | ⟨b, hp, hb, rfl⟩ := nextMicro_command hm
  · obtain ⟨low, rfl⟩ | ⟨high, m, f, md, fd, tr, ls, rx, rfl⟩ | ⟨high, rfl⟩ := ht
    · exact .stops hm low {} rfl
    · exact .ends hm high {} rfl
    · rw [resume_of_not_busy (by exact hr.not_busy)]
      exact .ends hm high { csn := high.symm } hr.afterError_eq.symm
  · obtain ⟨low, rfl⟩ | ⟨high, m, f, md, fd, tr, ls, rx, rfl⟩ | ⟨high, rfl⟩ := ht
    · exact .stops hm low {} rfl
    · exact .ends hm high {} rfl
    · rw [resume_of_busy (by exact hp)]
      obtain ⟨cfg, -⟩ := (busyResume_completed_next hp hb).frame
      exact .runs hp (busyResume_completed_pins hp high _ _ _) cfg

/-! ## CSN -/

/-- In a running operation CSN is 1 or about to be driven. -/
theorem State.csnIdle_of_busy {s : State} {b : Busy} (hp : s.phase = .busy b) :
    s.CsnIdle ↔ (b.drivesCsn || s.csn) = true := by
  unfold Busy.drivesCsn
  split <;> simp_all [State.CsnIdle]

/-- A transaction is begun with CSN 0 only when asked of the channel at rest, with no configuration ever latched
(41_channel R183, R191). -/
theorem State.CsnIdle.of_command_low {s s₁ : State} {i : Instr} (hs : s.CsnIdle) (h : nextMicro s = .command i s₁)
    (low : s.csn = false) : s.resting ∧ s.channelCall ≠ none ∧ s.cfg = none := by
  obtain ⟨hr, -, w, hw, -⟩ | ⟨b, hp, hb, -⟩ := nextMicro_command h
  · obtain high | driving | ⟨hcfg, -⟩ := hs
    · simp [high] at low
    · exact absurd driving (hr.not_busy _)
    · exact ⟨hr, by simp [hw], hcfg⟩
  · have high := (State.csnIdle_of_busy hp).mp hs
    simp [busyMicro_command_drivesCsn hb, low] at high

/-- A coherent block at rest is initialized only in IDLE (10_state R29). -/
theorem State.Coherent.idle_of_initialized {s : State} (hs : s.Coherent) (hr : s.resting)
    (hi : s.initialized = true) : s.phase = .idle :=
  hr.resolve_left fun hp => by simp [(State.coherent_of_uninit hp).mp hs] at hi

/-- In IDLE CSN is 1. -/
theorem State.CsnIdle.high_of_idle {s : State} (hs : s.CsnIdle) (hp : s.phase = .idle) : s.csn = true := by
  simpa [State.CsnIdle, hp] using hs

/-- Taking a host operation leaves CSN as it is; only INITIALIZE is taken with CSN undriven. -/
theorem accept_keeps_csnIdle {op : HostOp} {ops : List HostOp} {s t : State} (hco : s.Coherent) (hs : s.CsnIdle)
    (hr : s.resting) (h : accept op (s.setRequests ops) = .update t) : t.CsnIdle := by
  obtain ⟨r, rfl⟩ | ⟨c, -, -, rfl⟩ | ⟨hi, b, p, a, o, -, rfl⟩ :=
    accept_cases (s := s.setRequests ops) hr h
  · exact hs
  · exact .inr (.inl rfl)
  · exact .inl (hs.high_of_idle (hco.idle_of_initialized hr hi))

/-- Every step leaves CSN 1 outside a transaction, once INITIALIZE has driven it (41_channel R191). -/
theorem step_keeps_csnIdle {s t : State} (hco : s.Coherent) (hs : s.CsnIdle) (h : step s = .next t) : t.CsnIdle := by
  cases step_pins h with
  | waits rest => exact hs
  | accepts rest taken => exact accept_keeps_csnIdle hco hs rest taken
  | stops command low frame phase =>
    obtain ⟨-, -, hcfg⟩ := hs.of_command_low command low
    exact .inr (.inr ⟨frame.cfg.trans hcfg, .inr phase⟩)
  | ends command high frame phase => exact .inl (frame.csn.trans high)
  | runs running next cfg =>
    have high := (State.csnIdle_of_busy running).mp hs
    exact .inl (next.csn.trans high)

/-- Taking a host operation is no fault. -/
theorem accept_not_faulted {op : HostOp} {ops : List HostOp} {s t : State} (hr : s.resting)
    (h : accept op (s.setRequests ops) = .update t) (c : FaultCode) : t.phase ≠ .faulted c := by
  obtain ⟨r, rfl⟩ | ⟨c, -, -, rfl⟩ | ⟨-, b, p, a, o, -, rfl⟩ :=
    accept_cases (s := s.setRequests ops) hr h
  · exact fun hf => by obtain hp | hp := hr <;> cases hp.symm.trans hf
  · nofun
  · nofun

/-- An error is no fault (60_exceptions R370). -/
theorem Phase.eq_of_afterError_faulted {p : Phase} {c : FaultCode} (h : p.afterError = .faulted c) :
    p = .faulted c := by
  cases p with
  | busy b => cases b <;> cases h
  | _ => exact h

/-- With no transaction asked of the channel, no step ends in NESTED_TRANSACTION (41_channel R183; 60_exceptions
R386). -/
theorem step_not_nested {s t : State} (hs : s.CsnIdle) (h : step s = .next t) (hch : s.channelCall = none)
    (hn : s.phase ≠ .faulted .nestedTransaction) : t.phase ≠ .faulted .nestedTransaction := by
  cases step_pins h with
  | waits rest => exact hn
  | accepts rest taken => exact accept_not_faulted rest taken _
  | stops command low frame phase =>
    obtain ⟨-, asked, -⟩ := hs.of_command_low command low
    exact absurd hch asked
  | ends command high frame phase => exact fun hf => hn (Phase.eq_of_afterError_faulted (phase.symm.trans hf))
  | runs running next cfg => exact next.runs

/-- Settles O55, by the cases of `StepPins`: a running operation's transaction finds CSN 1, since the one micro-step
that may find it 0 is the write that drives it. -/
theorem chipSelectIdleKept : Obligations.ChipSelectIdleKept :=
  fun _ _ hco hs h => ⟨step_keeps_csnIdle hco hs h, step_not_nested hs h⟩

/-! ## CE -/

/-- A kept CE is gated where the phase reached allows what the phase left did. -/
theorem State.CeGated.carry {s t : State} (hs : s.CeGated) (ce : t.ce = s.ce) (cfg : t.cfg = s.cfg)
    (carries : s.phase.CeCarries t.phase) : t.CeGated := by
  intro high
  rw [State.receiving, cfg]
  exact carries _ _ (hs (ce ▸ high))

/-- A latched configuration is the one read. -/
theorem State.receiving_eq_config {s : State} {c : RadioConfiguration} (h : s.cfg = some c) :
    s.receiving = (s.config.mode == .receiver) := by
  rw [State.receiving, State.config_eq h, h, Option.any_some]

/-- Whatever a running operation of a coherent block does, CE is gated. -/
theorem PinsNext.ceGated {b : Busy} {s t : State} (h : PinsNext b s t) (hp : s.phase = .busy b)
    {c : RadioConfiguration} (latched : s.cfg = some c) (cfg : t.cfg = s.cfg) (hs : s.CeGated) : t.CeGated := by
  cases h.ce with
  | keeps carries level => exact hs.carry level cfg (hp ▸ carries)
  | lowers level => exact fun high => by simp [level] at high
  | allows gate =>
    intro _
    rw [State.receiving, cfg, ← State.receiving, State.receiving_eq_config latched]
    exact gate _

/-- An operation other than INITIALIZE starts with the CE of IDLE. -/
theorem Busy.isStart_ceCarries {b : Busy} (h : b.isStart = true) : Phase.idle.CeCarries (.busy b) := by
  cases b with
  | init st => cases h
  | transmit st =>
    obtain rfl : st = .loaded := by simpa [Busy.isStart] using h
    exact .alike
  | receive _ | ackFlush _ | ackPreload _ | query _ | setFrequency _ => exact .alike

/-- Taking a host operation leaves CE as it is. -/
theorem accept_keeps_ceGated {op : HostOp} {ops : List HostOp} {s t : State} (hco : s.Coherent) (hs : s.CeGated)
    (hr : s.resting) (h : accept op (s.setRequests ops) = .update t) : t.CeGated := by
  obtain ⟨r, rfl⟩ | ⟨c, -, -, rfl⟩ | ⟨hi, b, p, a, o, hb, rfl⟩ :=
    accept_cases (s := s.setRequests ops) hr h
  · exact hs
  · exact fun _ => rfl
  · exact hs.carry rfl rfl (hco.idle_of_initialized hr hi ▸ Busy.isStart_ceCarries hb)

/-- Every step keeps CE 0 but where 41_channel R191 allows it to be 1. -/
theorem step_keeps_ceGated {s t : State} (hco : s.Coherent) (hs : s.CeGated) (h : step s = .next t) : t.CeGated := by
  cases step_pins h with
  | waits rest => exact hs
  | accepts rest taken => exact accept_keeps_ceGated hco hs rest taken
  | stops command low frame phase =>
    exact hs.carry frame.ce frame.cfg (phase ▸ (nextMicro_command_carries command).1)
  | ends command high frame phase =>
    exact hs.carry frame.ce frame.cfg (phase ▸ (nextMicro_command_carries command).2)
  | runs running next cfg =>
    obtain ⟨c, latched, -⟩ := hco.latched running
    exact next.ceGated running latched cfg hs

/-- Settles O56, by the cases of `StepPins`. -/
theorem chipEnableGateKept : Obligations.ChipEnableGateKept :=
  fun _ _ hco hs h => step_keeps_ceGated hco hs h

end Sys2Proof.Machine
end

section
/-! SUPPORT. Every command is one transaction: how it completes by class, the two ways it fails, what it leaves alone
and the window on every exit (41_channel R182..R189; 60_exceptions R372, R373). -/

namespace Sys2Proof.Machine

/-! ## Completion -/

/-- Settles O13: each WRITE-class command's completed window. -/
theorem writeClassCompletes : Obligations.WriteClassCompletes :=
  fun _ _ hc h =>
    ⟨fun _ => exec_completes hc h, exec_completes hc h, exec_completes hc h, fun _ => exec_completes hc h⟩

/-- Settles O14: each READ-class command's completed window; a READ's command byte is the address alone. -/
theorem readClassCompletes : Obligations.ReadClassCompletes := by
  refine fun s hc => ⟨fun n h => ⟨fun r => ?_, exec_completes hc h⟩, fun h => exec_completes hc h⟩
  rw [← composeCommand_read]
  exact exec_completes hc h

/-- Settles O15: each COMMAND-class command's completed window, without a data block. -/
theorem commandClassCompletes : Obligations.CommandClassCompletes :=
  fun _ hc h => ⟨exec_completes hc h, exec_completes hc h, exec_completes hc h, exec_completes hc h⟩

/-! ## The nested transaction -/

/-- Settles O18: the transaction of every command stops the block where CSN is 0. -/
theorem nestedTransactionStops : Obligations.NestedTransactionStops := by
  intro i s low
  rw [exec_eq_transact, State.transact_nested _ _ _ low]

/-! ## The frame -/

/-- IO_ERROR ends the operation as 60_exceptions R372 says: the phase and the flag in each phase. -/
theorem State.ioErrorEnd_of_afterError {s t : State} (csn : t.csn = true)
    (results : t.results = .error .ioError :: s.results) (phase : t.phase = s.phase.afterError)
    (flag : t.initialized = (s.initialized && !s.phase.isInit)) : s.ioErrorEnd t := by
  refine ⟨csn, results, ?_⟩
  split <;> simp_all [Phase.afterError, Phase.isInit]

/-- However a transaction ends, it writes none of the registers no transaction writes (40_commands, introduction). -/
theorem State.transact_sameRegisters (s : State) (cmd : Byte) (k : Transfer) : s.sameRegisters (s.transact cmd k) := by
  obtain ⟨-, he⟩ | ⟨-, m, f, md, fd, tr, ls, rx, he⟩ | ⟨-, he⟩ := s.transact_cases cmd k
  all_goals
    rw [he]
    and_intros <;> rfl

theorem exec_sameRegisters {i : Instr} {s t : State} (h : exec i s = .next t) : s.sameRegisters t := by
  rw [exec_eq_transact] at h
  cases h
  exact s.transact_sameRegisters _ _

/-- Settles O19: a command that stops, fails or completes changes the phase, the flag and the results as it says. -/
theorem commandFrame : Obligations.CommandFrame := by
  intro i s t h
  refine ⟨exec_sameRegisters h, ?_⟩
  rw [exec_eq_transact] at h
  cases h
  obtain ⟨low, he⟩ | ⟨high, m, f, md, fd, tr, ls, rx, he⟩ | ⟨high, he⟩ :=
    s.transact_cases (commandByte s.params i) (transferOf i)
  all_goals rw [he]
  · exact ⟨rfl, rfl, rfl, rfl, .inr (.inr ⟨low, rfl⟩)⟩
  · exact ⟨rfl, rfl, rfl, rfl, .inr (.inl (State.ioErrorEnd_of_afterError high rfl rfl rfl))⟩
  · exact ⟨high.symm, rfl, rfl, rfl, .inl ⟨rfl, rfl, rfl⟩⟩

/-! ## Failure -/

/-- Settles O16: the transaction whose first exchange fails. -/
theorem commandByteFailureEnds : Obligations.CommandByteFailureEnds := by
  intro i s hc h0
  have he := exec_eq_transact i s
  rw [s.transact_commandFails _ _ hc h0] at he
  exact ⟨_, he, State.ioErrorEnd_of_afterError hc rfl rfl rfl, exec_sameRegisters he, rfl, rfl⟩

/-- Settles O17: the transaction whose second exchange fails. -/
theorem dataBlockFailureEnds : Obligations.DataBlockFailureEnds := by
  intro i s hc hd h0 h1
  have he := exec_eq_transact i s
  rw [s.transact_dataFails _ _ hc (by rwa [transferOf_sent]) h0 h1, transferOf_sent] at he
  exact ⟨_, he, State.ioErrorEnd_of_afterError hc rfl rfl rfl, exec_sameRegisters he, rfl, rfl⟩

/-! ## The window -/

/-- What the link answers to a command: it fails on the command byte or on the data block, or every exchange succeeds
(41_channel R182). -/
theorem exchanges_cases (s : State) (i : Instr) :
    s.env.failAt 0 = true ∨
    (dataBlock s.params i ≠ [] ∧ s.env.failAt 0 = false ∧ s.env.failAt 1 = true) ∨
    s.exchangesSucceed (exchangeCount (dataBlock s.params i)) := by
  rw [exchangeCount, ← Bool.not_eq_false]
  by_cases h0 : s.env.failAt 0 = false
  · split
    · exact .inr (.inr fun k hk => Nat.lt_one_iff.mp hk ▸ h0)
    · next data =>
      cases h1 : s.env.failAt 1 with
      | true => exact .inr (.inl ⟨data, h0, rfl⟩)
      | false =>
        refine .inr (.inr fun k hk => ?_)
        obtain rfl | rfl : k = 0 ∨ k = 1 := by omega
        exacts [h0, h1]
  · exact .inl h0

/-- The actions of a completed window between CSN's two writes are exchanges (41_channel R189). -/
theorem windowEvents_exchanges (cmd st : Byte) (sent received : List Byte) :
    ∃ es, windowEvents cmd st sent received = .pin .csn true :: es ++ [.pin .csn false] ∧ es ≠ [] ∧
      ∀ e ∈ es, ∃ out answer, e = .exchange out answer := by
  unfold windowEvents
  split
  · exact ⟨[.exchange [cmd] (some [st])], rfl, by simp, by simp⟩
  · exact ⟨[.exchange sent (some received), .exchange [cmd] (some [st])], rfl, by simp, by simp⟩

/-- Settles O20, by the three answers of the link. -/
theorem windowUnbroken : Obligations.WindowUnbroken := by
  intro i s t hc h
  obtain ⟨-, hcsn, -⟩ := commandFrame i s t h
  refine ⟨hcsn.trans hc, ?_⟩
  obtain h0 | ⟨data, h0, h1⟩ | answers := exchanges_cases s i
  · obtain ⟨t', he, -, -, -, trace⟩ := commandByteFailureEnds i s hc h0
    cases h.symm.trans he
    exact ⟨[.exchange _ _], trace, by simp, by simp⟩
  · obtain ⟨t', he, -, -, -, trace⟩ := dataBlockFailureEnds i s hc data h0 h1
    cases h.symm.trans he
    exact ⟨[.exchange _ _, .exchange _ _], trace, by simp, by simp⟩
  · cases h.symm.trans (exec_completes hc answers)
    obtain ⟨es, events, ne, exchanges⟩ := windowEvents_exchanges (commandByte s.params i) s.nextStatus
      (dataBlock s.params i) (s.nextData (dataBlock s.params i).length)
    exact ⟨es, by simp [State.completed, events], ne, exchanges⟩

end Sys2Proof.Machine
end

section
/-! SUPPORT. The fields of the configuration's register values at the spec's positions (42_configuration R214..R224):
what a field holds, and that the other fields composed with it by OR leave it as it is. -/

namespace Sys2Proof.Machine

/-! ## Reading a field -/

/-- A field sets no bit outside its place. -/
theorem getLsbD_field_outside {w i j : Nat} (x : BitVec w) (outside : j < i ∨ i + w ≤ j) :
    (x.setWidth 8 <<< i).getLsbD j = false := by
  rw [BitVec.getLsbD_shiftLeft, BitVec.getLsbD_setWidth]
  obtain below | above := outside
  · simp [below]
  · simp [BitVec.getLsbD_of_ge x (j - i) (by omega)]

/-- A field that fits the byte is read back at its place. -/
theorem extractLsb'_field {w i : Nat} (x : BitVec w) (fits : i + w ≤ 8) :
    (x.setWidth 8 <<< i).extractLsb' i w = x := by
  refine BitVec.eq_of_getLsbD_eq fun k hk => ?_
  have inByte : i + k < 8 ∧ k < 8 := by omega
  simp [hk, inByte]

/-- What is read at a place beside a field's own is not the field's. -/
theorem extractLsb'_field_outside {w i j k : Nat} (x : BitVec w) (outside : j + k ≤ i ∨ i + w ≤ j) :
    (x.setWidth 8 <<< i).extractLsb' j k = 0#k := by
  refine BitVec.eq_of_getLsbD_eq fun n hn => ?_
  rw [BitVec.getLsbD_extractLsb', getLsbD_field_outside x (by omega)]
  simp

/-- A one-bit field sets its own bit alone. -/
theorem getLsbD_bitAt {i j : Nat} (v : Bool) (hi : i < 8) : (bitAt v i).getLsbD j = (decide (j = i) && v) := by
  by_cases own : j = i
  · subst own
    simp [bitAt, hi]
  · rw [decide_eq_false own, Bool.false_and]
    exact getLsbD_field_outside (BitVec.ofBool v) (by omega)

theorem extractLsb'_bitAt_outside {i j k : Nat} (v : Bool) (outside : j + k ≤ i ∨ i + 1 ≤ j) :
    (bitAt v i).extractLsb' j k = 0#k :=
  extractLsb'_field_outside (BitVec.ofBool v) outside

/-- A number below `2 ^ w` in its place is a field of `w` bits. -/
theorem fieldAt_eq_field {n : Nat} (i w : Nat) (hn : n < 2 ^ w) :
    fieldAt n i = (BitVec.ofNat w n).setWidth 8 <<< i := by
  rw [fieldAt, ← BitVec.ofNat_toNat, BitVec.toNat_ofNat, Nat.mod_eq_of_lt hn]

/-- A number is read back at its place where nothing composed with it sets a bit there. -/
theorem or_fieldAt_toNat {a : Byte} {n i w : Nat} (hn : n < 2 ^ w) (fits : i + w ≤ 8)
    (clear : a.extractLsb' i w = 0#w) : ((a ||| fieldAt n i).extractLsb' i w).toNat = n := by
  rw [BitVec.extractLsb'_or, clear, BitVec.zero_or, fieldAt_eq_field i w hn, extractLsb'_field _ fits,
    BitVec.toNat_ofNat, Nat.mod_eq_of_lt hn]

theorem extractLsb'_fieldAt_outside {n i j k : Nat} (w : Nat) (hn : n < 2 ^ w) (outside : j + k ≤ i ∨ i + w ≤ j) :
    (fieldAt n i).extractLsb' j k = 0#k :=
  fieldAt_eq_field i w hn ▸ extractLsb'_field_outside _ outside

/-- A number in the field at bit 0 is the byte's value. -/
theorem fieldAt_zero_toNat {n : Nat} (hn : n < 256) : (fieldAt n 0).toNat = n := by
  simp [fieldAt, Nat.mod_eq_of_lt hn]

/-- A value that leaves a mask 0 sets none of its bits. -/
theorem getLsbD_of_and_eq_zero {a m : Byte} {i : Nat} (clear : a &&& m = 0) (masked : m.getLsbD i = true) :
    a.getLsbD i = false := by
  have bit := congrArg (BitVec.getLsbD · i) clear
  simpa [masked] using bit

/-! ## CONFIG -/

theorem configValue_default (c : RadioConfiguration) :
    configValue .default c = (c.irqMask.setWidth 8 <<< 4) ||| ((crcBits .default c.crcWidth).setWidth 8 <<< 2)
      ||| bitAt c.powerUp 1 ||| bitAt (c.mode == .receiver) 0 := rfl

theorem configValue_irqMask (c : RadioConfiguration) : (configValue .default c).extractLsb' 4 3 = c.irqMask := by
  simp [configValue_default, BitVec.extractLsb'_or, extractLsb'_field, extractLsb'_field_outside,
    extractLsb'_bitAt_outside]

theorem configValue_crc (c : RadioConfiguration) :
    (configValue .default c).extractLsb' 2 2 = crcBits .default c.crcWidth := by
  simp [configValue_default, BitVec.extractLsb'_or, extractLsb'_field, extractLsb'_field_outside,
    extractLsb'_bitAt_outside]

theorem configValue_powerUp (c : RadioConfiguration) : (configValue .default c).getLsbD 1 = c.powerUp := by
  simp [configValue_default, BitVec.getLsbD_or, getLsbD_bitAt, -BitVec.getLsbD_eq_getElem]

theorem configValue_primRx (c : RadioConfiguration) :
    (configValue .default c).getLsbD 0 = (c.mode == .receiver) := by
  simp [configValue_default, BitVec.getLsbD_or, getLsbD_bitAt, -BitVec.getLsbD_eq_getElem]

/-- Settles O8, field by field; bit 7 is CONFIG's reserved bit. -/
theorem configRegisterFields : Obligations.ConfigRegisterFields := by
  intro c _
  have crc (n : Nat) (width : c.crcWidth = n) : (configValue .default c).extractLsb' 2 2 = crcBits .default n :=
    width ▸ configValue_crc c
  refine ⟨configValue_irqMask c, crc 0, crc 1, crc 2, configValue_powerUp c, ?_,
    getLsbD_of_and_eq_zero (configValue_reserved c) rfl⟩
  rw [configValue_primRx, beq_iff_eq]

/-! ## SETUP_RETR and RF_SETUP -/

/-- The data rate's bits leave the output power's place 0. -/
theorem rateBits_outputPower (d : DataRate) : (rateBits .default d).extractLsb' 1 2 = 0#2 := by
  cases d <;> rfl

theorem rateBits_bit7 (d : DataRate) : (rateBits .default d).getLsbD 7 = false := by
  cases d <;> rfl

theorem rateBits_bit5 (d : DataRate) : (rateBits .default d).getLsbD 5 = (d == .rate250K) := by
  cases d <;> rfl

theorem rateBits_bit3 (d : DataRate) : (rateBits .default d).getLsbD 3 = (d == .rate2M) := by
  cases d <;> rfl

theorem setupRetrValue_count {c : RadioConfiguration} (delay : c.retransmitDelay ≤ 15)
    (count : c.retransmitCount ≤ 15) :
    ((setupRetrValue .default c).extractLsb' 0 4).toNat = c.retransmitCount :=
  or_fieldAt_toNat (Nat.lt_succ_of_le count) (by decide)
    (extractLsb'_fieldAt_outside 4 (Nat.lt_succ_of_le delay) (by decide))

theorem setupRetrValue_delay {c : RadioConfiguration} (delay : c.retransmitDelay ≤ 15)
    (count : c.retransmitCount ≤ 15) :
    ((setupRetrValue .default c).extractLsb' 4 4).toNat = c.retransmitDelay := by
  rw [setupRetrValue, BitVec.or_comm]
  exact or_fieldAt_toNat (Nat.lt_succ_of_le delay) (by decide)
    (extractLsb'_fieldAt_outside 4 (Nat.lt_succ_of_le count) (by decide))

theorem rfSetupValue_outputPower {c : RadioConfiguration} (power : c.outputPower ≤ 3) :
    ((rfSetupValue .default c).extractLsb' 1 2).toNat = c.outputPower := by
  refine or_fieldAt_toNat (Nat.lt_succ_of_le power) (by decide) ?_
  rw [BitVec.extractLsb'_or, rateBits_outputPower, BitVec.or_zero]
  exact extractLsb'_bitAt_outside c.continuousWave (by decide)

/-- Outside the output power's place RF_SETUP holds the continuous-wave bit and the data rate's bits. -/
theorem rfSetupValue_bit {c : RadioConfiguration} {j : Nat} (power : c.outputPower ≤ 3) (outside : j < 1 ∨ 3 ≤ j) :
    (rfSetupValue .default c).getLsbD j =
      (decide (j = 7) && c.continuousWave || (rateBits .default c.dataRate).getLsbD j) := by
  rw [rfSetupValue, fieldAt_eq_field _ 2 (Nat.lt_succ_of_le power), BitVec.getLsbD_or, BitVec.getLsbD_or,
    getLsbD_bitAt _ (by decide), getLsbD_field_outside _ outside, Bool.or_false]
  rfl

/-- Settles O9, field by field; bits 6, 4 and 0 are RF_SETUP's reserved bits. -/
theorem retransmitAndRadioFields : Obligations.RetransmitAndRadioFields := by
  intro c admitted
  obtain ⟨-, delay, count, -, power, -⟩ := configAdmitted_iff.mp admitted
  have reserved {j : Nat} (masked : (reservedBits .rfSetup).getLsbD j = true) :=
    getLsbD_of_and_eq_zero (rfSetupValue_reserved power) masked
  refine ⟨setupRetrValue_delay delay count, setupRetrValue_count delay count, ?_, rfSetupValue_outputPower power,
    ?_, ?_, reserved rfl, reserved rfl, reserved rfl⟩
  · simp only [rfSetupValue_bit power (j := 7) (by decide), rateBits_bit7, decide_true, Bool.true_and, Bool.or_false]
  · simp [rfSetupValue_bit power (j := 5) (by decide), rateBits_bit5, -BitVec.getLsbD_eq_getElem]
  · simp [rfSetupValue_bit power (j := 3) (by decide), rateBits_bit3, -BitVec.getLsbD_eq_getElem]

/-! ## The other registers -/

/-- 10_state R31's length of the address makes the bytes written the whole list (42_configuration R221). -/
theorem addressValue_eq {c : RadioConfiguration} (length : c.address.length = c.addressWidth + 2) :
    addressValue c = c.address :=
  List.take_of_length_le length.le

theorem dynpdValue_default (c : RadioConfiguration) :
    dynpdValue .default c = if c.dynamicPayload then 0x01 else 0x00 := by
  unfold dynpdValue
  cases c.dynamicPayload <;> rfl

/-- FEATURE's three bits as a number (42_configuration R224). -/
theorem three_bits_toNat : ∀ payload ackPayload ack : Bool,
    (bitAt payload 2 ||| bitAt ackPayload 1 ||| bitAt ack 0).toNat =
      4 * payload.toNat + 2 * ackPayload.toNat + ack.toNat := by
  decide

/-- Settles O10: the fields at bit 0 are the value itself, and the address has the length its width code gives. -/
theorem plainRegisterValues : Obligations.PlainRegisterValues := by
  intro c admitted
  obtain ⟨-, -, -, channel, -, -, addressWidth, length, payloadWidth⟩ := configAdmitted_iff.mp admitted
  have address := addressValue_eq length
  refine ⟨?_, rfl, fieldAt_zero_toNat (by omega), fieldAt_zero_toNat (by omega), fieldAt_zero_toNat (by omega),
    dynpdValue_default c, three_bits_toNat _ _ _, address, address, length⟩
  change (c.autoAckMask.setWidth 8 <<< 0).toNat = _
  rw [BitVec.shiftLeft_zero]
  exact BitVec.toNat_setWidth_of_le (by decide)

end Sys2Proof.Machine
end

section
/-! SUPPORT. INITIALIZE step by step (42_configuration R211..R229): its check and latch, its updates and its
transactions. -/

namespace Sys2Proof.Machine

/-! ## Step 0: the check and the latch -/

/-- An INITIALIZE taken at rest goes as its check says (42_configuration R211). -/
theorem step_of_init {s : State} {c : RadioConfiguration} {ops : List HostOp} (hr : s.resting)
    (hc : s.channelCall = none) (hq : s.requests = .init c :: ops) :
    step s = .next (if configAdmitted c then (s.setRequests ops).latchConfig c
      else (s.setRequests ops).pushResult (.error .configInvalid)) := by
  refine step_of_accept hr hc hq ?_
  simp only [accept, whenAdmitted, (s.setRequests ops).raise_resting _ hr]
  split <;> rfl

/-- Settles O27: the check is R31's, and the step goes as it says. -/
theorem initializeChecksAndLatches : Obligations.InitializeChecksAndLatches := by
  intro s c ops hr hc hq
  refine ⟨configAdmitted_iff, fun refused => ?_, fun admitted => ?_⟩
  · rw [step_of_init hr hc hq, refused]
    rfl
  · rw [step_of_init hr hc hq, admitted]
    rfl

/-! ## Step 1: the pins and the power-up wait -/

theorem State.now_unbounded {s : State} (h : s.params.clockBits = none) : s.now = s.env.reading := by
  simp [State.now, clockValue, h]

theorem State.now_wraps {s : State} {k : Nat} (h : s.params.clockBits = some k) : s.now = s.env.reading % 2 ^ k := by
  simp [State.now, clockValue, h]

/-- Settles O28: the pin writes, the wait's two readings with the loop's two exits, and the two forms of the clock. -/
theorem initializePinsAndSettle : Obligations.InitializePinsAndSettle := by
  intro s
  refine ⟨fun hp => step_of_update hp rfl, fun hp => step_of_update hp rfl, fun hp => step_of_update hp rfl,
    fun hp => ?_, s.env.now_le_reading, s.env.tick_now,
    fun unbounded => ⟨s.now_unbounded unbounded, elapsed_unbounded unbounded⟩,
    fun k wraps => ⟨s.now_wraps wraps, fun _ _ => elapsed_wraps wraps⟩⟩
  rw [step_of_update hp rfl]
  split
  · rfl
  · rw [← hp]
    rfl

/-! ## A running operation's transactions, by class -/

/-- A register read of one byte: the completed window, and the operation goes on (40_commands R140). -/
theorem step_reads {s : State} {b : Busy} {r : Reg} (hp : s.phase = .busy b)
    (hm : busyMicro b s = .command (.read r 1) s) (hc : s.csn = true) (answers : s.exchangesSucceed 2) :
    step s = .next (busyResume b (s.completedRead (r.addr s.params.reg))) := by
  rw [step_completes hp hm hc answers, completed_read]

/-- A register write: the completed window, and the operation goes on (40_commands R141). -/
theorem step_writes {s : State} {b : Busy} (r : Reg) (v : List Byte) (hp : s.phase = .busy b)
    (hm : busyMicro b s = .command (.write r v) s) (hc : s.csn = true)
    (answers : s.exchangesSucceed (exchangeCount v)) :
    step s = .next (busyResume b (s.completedWrite (r.addr s.params.reg) v)) := by
  rw [step_completes hp hm hc answers, completed_write]

/-! ## Step 2: the self-test -/

/-- Settles O29: the four transactions on FEATURE, then the comparison's two outcomes. -/
theorem selfTestOfFeature : Obligations.SelfTestOfFeature := by
  refine fun s => ⟨fun hc answers => ⟨?_, ?_, ?_, ?_⟩, fun hp => ⟨fun differs => ?_, fun same => ?_⟩⟩
  · exact fun hp => step_reads hp rfl hc answers
  · exact fun hp => step_writes .feature [s.flipped] hp rfl hc (answers.mono (exchangeCount_le _))
  · exact fun hp => step_reads hp rfl hc answers
  · exact fun hp => step_writes .feature [s.stOrig] hp rfl hc (answers.mono (exchangeCount_le _))
  · exact step_of_update hp (congrArg Micro.update (if_neg differs))
  · exact step_of_update hp (congrArg Micro.update (if_pos same))

/-! ## Step 3: the register writes -/

theorem initMicro_program {s : State} {c : RadioConfiguration} (hcfg : s.cfg = some c) (r : CfgReg)
    (rest : List CfgReg) :
    initMicro (.program (r :: rest)) s = .command (.write r.reg (r.value s.params.bits c)) s := by
  rw [initMicro, State.config_eq hcfg]

/-- Settles O30: one register write per entry, the end of the list, and R225's table. -/
theorem registersProgrammedInOrder : Obligations.RegistersProgrammedInOrder := by
  refine ⟨fun s c r rest hp hcfg hc answers => ?_, fun s hp => step_of_update hp rfl, rfl, fun b c => rfl, rfl,
    fun c admitted => ?_⟩
  · exact step_writes r.reg (r.value s.params.bits c) hp (initMicro_program hcfg r rest) hc answers
  · obtain ⟨-, -, -, -, -, -, -, length, -⟩ := configAdmitted_iff.mp admitted
    rw [addressValue_eq length]
    exact ⟨rfl, length⟩

/-! ## Steps 4 and 5: the flushes, the flags and REUSE -/

theorem initMicro_reuse {s : State} {c : RadioConfiguration} (hcfg : s.cfg = some c) :
    initMicro .reuse s = if c.txReuse then .command .reuseTxPayload s else .update (s.initGoto .chipEnable) := by
  rw [initMicro, State.config_eq hcfg]

/-- Settles O31: a command without data needs the first of the two answers only. -/
theorem initializeFlushesAndClears : Obligations.InitializeFlushesAndClears := by
  refine ⟨rfl, fun s hc answers => ?_⟩
  have one := answers.mono (exchangeCount_le [])
  refine ⟨fun hp => step_completes hp rfl hc one, fun hp => step_completes hp rfl hc one, fun hp => ?_,
    fun c hp hcfg reuse => ?_, fun c hp hcfg skip => ?_⟩
  · exact step_writes .status [clearValue s.params.bits] hp rfl hc (answers.mono (exchangeCount_le _))
  · exact step_completes hp ((initMicro_reuse hcfg).trans (if_pos reuse)) hc one
  · exact step_of_update hp ((initMicro_reuse hcfg).trans (if_neg (Bool.eq_false_iff.mp skip)))

/-! ## Steps 6 and 7: chip-enable and completion -/

theorem initMicro_chipEnable {s : State} {c : RadioConfiguration} (hcfg : s.cfg = some c) :
    initMicro .chipEnable s =
      .update ((if c.mode = .receiver then s.setPin .ce true else s).initGoto .complete) := by
  rw [initMicro, State.config_eq hcfg]

/-- Settles O32, by the configured mode. -/
theorem chipEnableAndCompletion : Obligations.ChipEnableAndCompletion := by
  refine fun s => ⟨fun c hp hcfg => ?_, fun hp => step_of_update hp rfl⟩
  have enabled := step_of_update hp (initMicro_chipEnable hcfg)
  constructor <;> intro mode <;> rw [enabled, mode] <;> rfl

end Sys2Proof.Machine
end

section
/-! SUPPORT. The proof that POLL and ACCOUNT run only in a transmit that requested acknowledgment (43_transmit R255,
R260, R263; 45_link_quality R348). -/

namespace Sys2Proof.Machine

/-! ## The vocabulary -/

/-- A state in a phase that needs no request is on the path. -/
theorem State.AckPath.elsewhere {s : State} (other : s.phase.needsAck = false := by rfl) : s.AckPath :=
  fun needs => by simp [other] at needs

/-- A branch on the request is on the path: the step taken without one needs none (43_transmit R255, R260). -/
theorem txGoto_branch_ackPath (s : State) (st : TransmitStep) {st' : TransmitStep}
    (other : (Phase.busy (.transmit st')).needsAck = false) : (s.txGoto (if s.txAck then st else st')).AckPath := by
  by_cases requested : s.txAck = true
  · exact fun _ => requested
  · rw [if_neg requested]
    exact .elsewhere other

/-! ## INITIALIZE -/

/-- INITIALIZE's phases need no request. -/
theorem Phase.needsAck_of_isInit {p : Phase} (h : p.isInit = true) : p.needsAck = false := by
  unfold Phase.isInit at h
  split at h
  · rfl
  · cases h

/-- INITIALIZE goes on in its own phases or ends. -/
theorem BusyNext.init_ackPath {st : InitStep} {s t : State} (h : BusyNext (.init st) s t) : t.AckPath := by
  cases h with
  | goesOn keep ack kind width => exact .elsewhere (Phase.needsAck_of_isInit kind)
  | initEnds ok kind => exact .elsewhere (by cases ok <;> rfl)
  | returns r keep ack kind => exact .elsewhere
  | stops c => exact .elsewhere
  | commits r commit => cases commit

/-! ## The receive procedure -/

/-- `wrap` and `done` place the receive procedure in an operation that runs it with or without a request, and goes on to
a step that needs one only if there is one. -/
structure ReceiveAckPath (wrap : ReceiveStep → Busy) (done : State → State) : Prop where
  goesOn : ∀ rs, (Phase.busy (wrap rs)).needsAck = false
  done : ∀ u, (done u).AckPath

theorem receive_receiveAckPath : ReceiveAckPath .receive receiveDone where
  goesOn _ := rfl
  done _ := .elsewhere

/-- After DRAIN ACCOUNT is run only if acknowledgment was requested (43_transmit R260, R263). -/
theorem drain_receiveAckPath : ReceiveAckPath drainWrap drainDone where
  goesOn _ := rfl
  done u := txGoto_branch_ackPath u .account rfl

section ReceiveProcedure

variable {wrap : ReceiveStep → Busy} {done : State → State} {rs : ReceiveStep} {s t : State}

theorem widthKnown_ackPath (path : ReceiveAckPath wrap done) (w : Nat) : (widthKnown wrap done w s).AckPath := by
  obtain ⟨-, he⟩ | ⟨-, he⟩ | ⟨-, -, he⟩ := widthKnown_cases wrap done w s
  · exact he ▸ path.done _
  · exact he ▸ .elsewhere
  · exact he ▸ .elsewhere (path.goesOn _)

/-- The procedure's one update (44_receive_and_queries R302). -/
theorem receiveMicro_ackPath (path : ReceiveAckPath wrap done) (h : receiveMicro wrap done rs s = .update t) :
    t.AckPath := by
  cases rs with
  | length =>
    simp only [receiveMicro] at h
    split at h
    · cases h
    · cases h; exact widthKnown_ackPath path _
  | status | payload w => cases h

/-- The procedure after its transaction (44_receive_and_queries R301, R302). -/
theorem receiveResume_ackPath (path : ReceiveAckPath wrap done) : (receiveResume wrap done rs s).AckPath := by
  cases rs with
  | status =>
    simp only [receiveResume]
    split
    · exact .elsewhere (path.goesOn _)
    · exact path.done _
  | length => exact widthKnown_ackPath path _
  | payload w => exact path.done _

end ReceiveProcedure

/-! ## TRANSMIT -/

/-- TRANSMIT's updates: PULSE ends in POLL only if acknowledgment was requested, and POLL leaves the request as it is
(43_transmit R255, R256). -/
theorem transmitMicro_keeps_ackPath {st : TransmitStep} {s t : State} (hp : s.phase = .busy (.transmit st))
    (hs : s.AckPath) (h : transmitMicro st s = .update t) : t.AckPath := by
  cases st with
  | pulseLower => cases h; exact txGoto_branch_ackPath (s.setPin .ce false) .pollEnter rfl
  | pollEnter | pollTime | pollWaitStart => cases h; exact fun _ => hs (hp ▸ rfl)
  | pollWaitHold =>
    cases h
    split
    · exact fun _ => hs (hp ▸ rfl)
    · exact hs
  | pulseHold | settleHold =>
    cases h
    split
    · exact .elsewhere
    · exact hs
  | pulseRaise | pulseStamp | settleStart | commit _ | finish => cases h; exact .elsewhere
  | drain rs => exact receiveMicro_ackPath drain_receiveAckPath h
  | rearm =>
    simp only [transmitMicro] at h
    split at h
    · cases h
    · cases h; exact .elsewhere
  | loaded | armedFlush | armedClear | pollRead | settleRead | account => cases h

/-- TRANSMIT after a transaction: POLL's read and ACCOUNT's leave the request as it is (43_transmit R256;
45_link_quality R342). -/
theorem transmitResume_keeps_ackPath {st : TransmitStep} {s : State} (hp : s.phase = .busy (.transmit st))
    (hs : s.AckPath) : (transmitResume st s).AckPath := by
  cases st with
  | pollRead | account => exact fun _ => hs (hp ▸ rfl)
  | loaded | armedFlush | armedClear | settleRead | rearm => exact .elsewhere
  | drain rs => exact receiveResume_ackPath drain_receiveAckPath
  | pulseRaise | pulseStamp | pulseHold | pulseLower | pollEnter | pollTime | pollWaitStart | pollWaitHold
  | settleStart | settleHold | commit _ | finish => exact hs

/-! ## Every operation -/

theorem busyMicro_keeps_ackPath {b : Busy} {s t : State} (hp : s.phase = .busy b) (hs : s.AckPath)
    (h : busyMicro b s = .update t) : t.AckPath := by
  cases b with
  | init st => exact (initMicro_next hp h).init_ackPath
  | transmit st => exact transmitMicro_keeps_ackPath hp hs h
  | receive rs => exact receiveMicro_ackPath receive_receiveAckPath h
  | ackFlush _ | ackPreload _ | query _ | setFrequency _ => cases h

theorem busyResume_keeps_ackPath {b : Busy} {s : State} (hp : s.phase = .busy b) (hs : s.AckPath) :
    (busyResume b s).AckPath := by
  cases b with
  | init st => exact (initResume_next hp).init_ackPath
  | transmit st => exact transmitResume_keeps_ackPath hp hs
  | receive rs => exact receiveResume_ackPath receive_receiveAckPath
  | ackFlush _ | ackPreload _ | query _ | setFrequency _ => exact .elsewhere

/-! ## The step -/

/-- No operation starts with a step that needs the request. -/
theorem Busy.isStart_needsAck {b : Busy} (h : b.isStart = true) : (Phase.busy b).needsAck = false := by
  cases b with
  | transmit st =>
    obtain rfl : st = .loaded := by simpa [Busy.isStart] using h
    rfl
  | init _ | receive _ | ackFlush _ | ackPreload _ | query _ | setFrequency _ => rfl

/-- Taking a host operation latches the request before any step that needs it (43_transmit R251). -/
theorem accept_keeps_ackPath {op : HostOp} {ops : List HostOp} {s t : State} (hs : s.AckPath) (hr : s.resting)
    (h : accept op (s.setRequests ops) = .update t) : t.AckPath := by
  obtain ⟨r, rfl⟩ | ⟨c, -, -, rfl⟩ | ⟨-, b, p, a, o, hb, rfl⟩ :=
    accept_cases (s := s.setRequests ops) hr h
  · exact hs
  · exact .elsewhere
  · exact .elsewhere (Busy.isStart_needsAck hb)

/-- No error leaves a step that needs the request (60_exceptions R372). -/
theorem Phase.afterError_needsAck (p : Phase) : p.afterError.needsAck = false := by
  cases p with
  | busy b => cases b <;> rfl
  | uninit | idle | faulted c => rfl

/-- Every command is asked on a state that keeps the phase and the request. -/
theorem nextMicro_command_keeps_ackPath {s s₁ : State} {i : Instr} (hs : s.AckPath)
    (h : nextMicro s = .command i s₁) : s₁.AckPath := by
  obtain ⟨-, rfl, -⟩ | ⟨-, -, -, rfl⟩ := nextMicro_command h
  · exact hs
  · exact hs

/-- What follows a transaction keeps the path. -/
theorem resume_keeps_ackPath {s : State} (hs : s.AckPath) : (resume s).AckPath := by
  cases hp : s.phase with
  | busy b =>
    rw [resume_of_busy hp]
    exact busyResume_keeps_ackPath hp hs
  | uninit | idle | faulted c =>
    rw [resume_of_not_busy (by simp [hp])]
    exact hs

/-- Every step keeps POLL and ACCOUNT to a transmit that requested acknowledgment (45_link_quality R348). -/
theorem step_keeps_ackPath {s t : State} (hs : s.AckPath) (h : step s = .next t) : t.AckPath := by
  obtain hm | ⟨i, s₁, hm, ht⟩ := step_cases h
  · obtain ⟨-, -, -, rfl⟩ | ⟨hr, -, op, ops, -, ha⟩ | ⟨b, hp, hb⟩ := nextMicro_update hm
    · exact hs
    · exact accept_keeps_ackPath hs hr ha
    · exact busyMicro_keeps_ackPath hp hs hb
  have asked : s₁.AckPath := nextMicro_command_keeps_ackPath hs hm
  obtain ⟨-, rfl⟩ | ⟨-, m, f, md, fd, tr, ls, rx, rfl⟩ | ⟨-, rfl⟩ := ht
  · exact .elsewhere
  · exact .elsewhere (Phase.afterError_needsAck _)
  · exact resume_keeps_ackPath (by exact asked)

/-- Settles O57, by the cases of a step: a phase that needs the request is reached on the branch that tests it, or from
another such phase, and the request is latched only at rest. -/
theorem ackPathKept : Obligations.AckPathKept :=
  fun _ _ hs h => step_keeps_ackPath hs h

end Sys2Proof.Machine
end

section
/-! SUPPORT. TRANSMIT step by step (43_transmit R251..R262): its check and latch, its waits and its transactions. -/

namespace Sys2Proof.Machine

/-! ## The check and the latch -/

/-- A TRANSMIT taken at rest goes as its two checks say (43_transmit R251; 60_exceptions R371). -/
theorem step_of_transmit {s : State} {p : List Byte} {ack : Bool} {timeout : Option Nat} {ops : List HostOp}
    (hr : s.resting) (hc : s.channelCall = none) (hq : s.requests = .transmit p ack timeout :: ops) :
    step s = .next (
      if s.initialized then
        if payloadAdmitted p then (s.setRequests ops).latchTransmit p ack (timeout.getD s.config.txTimeoutUs)
        else (s.setRequests ops).pushResult (.error .payloadLength)
      else (s.setRequests ops).pushResult (.error .notInitialized)) := by
  refine step_of_accept hr hc hq ?_
  simp only [accept, whenInitialized, whenAdmitted, (s.setRequests ops).raise_resting _ hr,
    State.setRequests_initialized]
  split_ifs <;> rfl

/-- Settles O33: the two checks in their order, then the latch. -/
theorem transmitChecksAndLatches : Obligations.TransmitChecksAndLatches := by
  intro s p ack timeout ops hr hc hq
  have taken := step_of_transmit hr hc hq
  refine ⟨fun uninit => ?_, fun init length => ?_, fun c init least most hcfg => ?_⟩
  · rw [taken, if_neg (Bool.eq_false_iff.mp uninit)]
    rfl
  · have refused : payloadAdmitted p ≠ true := by
      rw [Ne, payloadAdmitted_iff]
      omega
    rw [taken, if_pos init, if_neg refused]
    rfl
  · rw [taken, if_pos init, if_pos ((payloadAdmitted_iff p).mpr ⟨least, most⟩), State.config_eq hcfg]
    rfl

/-! ## LOADED and ARMED -/

/-- Settles O34: the payload's transaction by the request, then a command without data and a register write. -/
theorem loadedAndArmed : Obligations.LoadedAndArmed := by
  refine fun s hc answers => ⟨fun hp => ?_, fun hp => ?_, fun hp => ?_⟩
  · rw [step_completes hp rfl hc (answers.mono (exchangeCount_le _))]
    cases s.txAck <;> rfl
  · exact step_completes hp rfl hc (answers.mono (exchangeCount_le _))
  · exact step_writes .status [clearValue s.params.bits] hp rfl hc (answers.mono (exchangeCount_le _))

/-! ## PULSE, POLL and SETTLE -/

/-- A wait's loop reads the clock once more and is left when the reading's test holds (41_channel R194). -/
theorem step_holds {s : State} {b b' : Busy} {passed : Prop} [Decidable passed] (hp : s.phase = .busy b)
    (hm : busyMicro b s = .update (if passed then s.readClock.setPhase (.busy b') else s.readClock)) :
    step s = .next { s with
      env := s.env.tick, trace := .clock s.now :: s.trace
      phase := if passed then .busy b' else .busy b } := by
  rw [step_of_update hp hm]
  split
  · rfl
  · rw [← hp]
    rfl

/-- A branch between two micro-steps is a branch between their phases. -/
theorem txGoto_ite (s : State) (c : Prop) [Decidable c] (st st' : TransmitStep) :
    s.txGoto (if c then st else st') =
      s.setPhase (if c then .busy (.transmit st) else .busy (.transmit st')) := by
  split <;> rfl

/-- Settles O35: the two pin writes around the wait, and the branch on the request. -/
theorem pulseHeldAndLowered : Obligations.PulseHeldAndLowered := by
  refine fun s => ⟨fun hp => step_of_update hp rfl, fun hp => step_of_update hp rfl,
    fun hp => step_holds hp rfl, fun hp => ?_⟩
  rw [step_of_update hp rfl, txGoto_ite]
  rfl

/-- Settles O36: the status read with its flag test, the time test, and the wait of the interval. -/
theorem pollIterates : Obligations.PollIterates := by
  refine fun s => ⟨fun hp => step_of_update hp rfl, fun hp hc answers => ?_, fun hp => ?_,
    fun hp => step_of_update hp rfl, fun hp => step_holds hp rfl⟩
  · rw [step_reads hp rfl hc answers, busyResume, transmitResume, completedRead_rxByte, txGoto_ite]
    rfl
  · rw [step_of_update hp rfl]
    split_ifs <;> rfl

/-- Settles O37: the wait, then the read that follows it on both paths. -/
theorem settleReadsFinalStatus : Obligations.SettleReadsFinalStatus :=
  fun _ => ⟨fun hp => step_of_update hp rfl, fun hp => step_holds hp rfl,
    fun hp hc answers => step_reads hp rfl hc answers⟩

/-! ## REARM and the return -/

theorem transmitMicro_rearm {s : State} {c : RadioConfiguration} (hcfg : s.cfg = some c) :
    transmitMicro .rearm s = if c.txReuse then .command .reuseTxPayload s else .update (s.txGoto .finish) := by
  rw [transmitMicro, State.config_eq hcfg]

/-- Settles O38: REARM by the configured reuse, and the return's outcome. -/
theorem rearmAndReturn : Obligations.RearmAndReturn := by
  refine fun s => ⟨fun c hp hcfg => ⟨fun reuse hc answers => ?_, fun skip => ?_⟩, fun hp => step_of_update hp rfl⟩
  · exact step_completes hp ((transmitMicro_rearm hcfg).trans (if_pos reuse)) hc answers
  · exact step_of_update hp ((transmitMicro_rearm hcfg).trans (if_neg (Bool.eq_false_iff.mp skip)))

end Sys2Proof.Machine
end

section
/-! SUPPORT. The proof that the receive procedure clears no flag, flushes no FIFO and leaves the pins
(44_receive_and_queries R312): a step of it is an internal update or the transaction of a command that reads. -/

namespace Sys2Proof

/-! ## What a reading command sends -/

/-- In a value set that can be read back, commands of different opcodes have different command bytes. -/
theorem commandByte_ne {p : Params} (h : p.Unambiguous) {i j : Instr} (ne : i.opcode ≠ j.opcode) :
    commandByte p i ≠ commandByte p j := by
  intro same
  have opcodes := opcodeOf?_commandByte h i
  rw [same, opcodeOf?_commandByte h j] at opcodes
  exact ne (Option.some.inj opcodes).symm

/-- A command that reads has one of the three READ-class opcodes (41_channel R186). -/
theorem opcode_of_isRead {i : Instr} (reads : (Machine.transferOf i).isRead = true) :
    i.opcode = .read ∨ i.opcode = .readPayload ∨ i.opcode = .readPayloadWidth := by
  cases i with
  | read r n => exact .inl rfl
  | readPayload n => exact .inr (.inl rfl)
  | readPayloadWidth => exact .inr (.inr rfl)
  | write _ _ | writePayload _ | writePayloadNoAck _ | writeAckPayload _ _ | flushTx | flushRx | reuseTxPayload | nop =>
    cases reads

/-- A command that reads sends filler bytes, which are NOP command bytes (41_channel R181). -/
theorem mem_dataBlock_of_isRead {p : Params} {i : Instr} (reads : (Machine.transferOf i).isRead = true) {x : Byte}
    (hx : x ∈ dataBlock p i) : x = commandByte p .nop := by
  cases i with
  | read r n => exact List.eq_of_mem_replicate hx
  | readPayload n => exact List.eq_of_mem_replicate hx
  | readPayloadWidth => exact List.mem_singleton.mp hx
  | write _ _ | writePayload _ | writePayloadNoAck _ | writeAckPayload _ _ | flushTx | flushRx | reuseTxPayload | nop =>
    cases reads

/-- A command that clears interrupt flags or flushes a FIFO: a WRITE or a flush (40_commands R146, R147, R160). -/
def Instr.clearsOrFlushes (i : Instr) : Prop := i.opcode = .write ∨ i.opcode = .flushTx ∨ i.opcode = .flushRx

/-- Neither the command byte nor the data block of a command that reads is the command byte of a WRITE or a flush. -/
theorem isRead_sends_ne {p : Params} (h : p.Unambiguous) {i j : Instr} (reads : (Machine.transferOf i).isRead = true)
    (hj : j.clearsOrFlushes) :
    [commandByte p i] ≠ [commandByte p j] ∧ dataBlock p i ≠ [commandByte p j] := by
  constructor
  · have opcodes : i.opcode ≠ j.opcode := by
      obtain hi | hi | hi := opcode_of_isRead reads <;> obtain hj | hj | hj := hj <;> simp [hi, hj]
    simpa using commandByte_ne h opcodes
  · intro same
    have opcodes : j.opcode ≠ .nop := by
      obtain hj | hj | hj := hj <;> simp [hj]
    have sent : commandByte p j ∈ dataBlock p i := same ▸ List.mem_singleton_self _
    exact commandByte_ne h opcodes (mem_dataBlock_of_isRead reads sent)

end Sys2Proof

namespace Sys2Proof.Machine

/-! ## The actions of a transaction -/

/-- An action of a command's window: CSN is written, or the command byte or the data block is exchanged (41_channel
R182). -/
inductive Event.OfWindow (p : Params) (i : Instr) : Event → Prop where
  | select (v : Bool) : OfWindow p i (.pin .csn v)
  | command (answer : Option (List Byte)) : OfWindow p i (.exchange [commandByte p i] answer)
  | data (answer : Option (List Byte)) : OfWindow p i (.exchange (dataBlock p i) answer)

/-- A completed window's actions are its command's. -/
theorem windowEvents_ofWindow {p : Params} {i : Instr} {st : Byte} {received : List Byte} {e : Event}
    (he : e ∈ windowEvents (commandByte p i) st (dataBlock p i) received) : e.OfWindow p i := by
  simp only [windowEvents, List.mem_cons, List.mem_append, List.not_mem_nil, or_false] at he
  obtain rfl | he | rfl | rfl := he
  · exact .select _
  · split at he
    · cases he
    · obtain rfl := List.mem_singleton.mp he
      exact .data _
  · exact .command _
  · exact .select _

/-- Whatever the link answers, what a command adds to the trace is its window's actions. -/
theorem exec_trace {i : Instr} {s t : State} (h : exec i s = .next t) :
    ∃ es, t.trace = es ++ s.trace ∧ ∀ e ∈ es, e.OfWindow s.params i := by
  cases hc : s.csn with
  | false =>
    cases h.symm.trans (nestedTransactionStops i s hc)
    exact ⟨[], rfl, nofun⟩
  | true =>
    obtain h0 | ⟨data, h0, h1⟩ | answers := exchanges_cases s i
    · obtain ⟨t', he, -, -, -, trace⟩ := commandByteFailureEnds i s hc h0
      cases h.symm.trans he
      exact ⟨[_, _, _], trace, List.forall_mem_cons.mpr ⟨.select _, List.forall_mem_cons.mpr ⟨.command _,
        List.forall_mem_singleton.mpr (.select _)⟩⟩⟩
    · obtain ⟨t', he, -, -, -, trace⟩ := dataBlockFailureEnds i s hc data h0 h1
      cases h.symm.trans he
      exact ⟨[_, _, _, _], trace, List.forall_mem_cons.mpr ⟨.select _, List.forall_mem_cons.mpr ⟨.data _,
        List.forall_mem_cons.mpr ⟨.command _, List.forall_mem_singleton.mpr (.select _)⟩⟩⟩⟩
    · cases h.symm.trans (exec_completes hc answers)
      exact ⟨_, rfl, fun e he => windowEvents_ofWindow he⟩

/-! ## What follows a transaction -/

/-- The pins' levels and the recorded actions, kept. -/
structure State.SameOutputs (s t : State) : Prop where
  ce : t.ce = s.ce := by rfl
  csn : t.csn = s.csn := by rfl
  trace : t.trace = s.trace := by rfl

theorem State.SameOutputs.trans {s t u : State} (h : s.SameOutputs t) (h' : t.SameOutputs u) : s.SameOutputs u :=
  ⟨h'.ce.trans h.ce, h'.csn.trans h.csn, h'.trace.trans h.trace⟩

/-- INITIALIZE after a transaction (42_configuration R213, R225..R227). -/
theorem initResume_sameOutputs (st : InitStep) (s : State) : s.SameOutputs (initResume st s) := by
  cases st with
  | program rest => cases rest <;> exact {}
  | _ => exact {}

section ReceiveProcedure

variable {wrap : ReceiveStep → Busy} {done : State → State}

/-- A known width leads to no action of its own (44_receive_and_queries R302, R303). -/
theorem widthKnown_sameOutputs (hd : ∀ u : State, u.SameOutputs (done u)) (w : Nat) (s : State) :
    s.SameOutputs (widthKnown wrap done w s) := by
  obtain ⟨-, he⟩ | ⟨-, he⟩ | ⟨-, -, he⟩ := widthKnown_cases wrap done w s <;> rw [he]
  · exact .trans {} (hd (s.setAckLen 0))
  · exact {}
  · exact {}

/-- The procedure after its transaction (44_receive_and_queries R301, R302). -/
theorem receiveResume_sameOutputs (hd : ∀ u : State, u.SameOutputs (done u)) (rs : ReceiveStep) (s : State) :
    s.SameOutputs (receiveResume wrap done rs s) := by
  cases rs with
  | status =>
    simp only [receiveResume]
    split
    · exact {}
    · exact .trans {} (hd (s.setAckLen 0))
  | length => exact widthKnown_sameOutputs hd _ s
  | payload w => exact .trans {} (hd (s.storeAck w s.rxData))

/-- The procedure's one update (44_receive_and_queries R302). -/
theorem receiveMicro_update_sameOutputs (hd : ∀ u : State, u.SameOutputs (done u)) {rs : ReceiveStep} {s t : State}
    (h : receiveMicro wrap done rs s = .update t) : s.SameOutputs t := by
  cases rs with
  | length =>
    simp only [receiveMicro] at h
    split at h
    · cases h
    · cases h; exact widthKnown_sameOutputs hd _ s
  | status | payload w => cases h

/-- The procedure's transactions read (44_receive_and_queries R301, R302). -/
theorem receiveMicro_command_isRead {rs : ReceiveStep} {s s₁ : State} {i : Instr}
    (h : receiveMicro wrap done rs s = .command i s₁) : (transferOf i).isRead = true := by
  cases rs with
  | length =>
    simp only [receiveMicro] at h
    split at h
    · cases h; rfl
    · cases h
  | status | payload w => cases h; rfl

end ReceiveProcedure

theorem receiveDone_sameOutputs (u : State) : u.SameOutputs (receiveDone u) := {}

theorem drainDone_sameOutputs (u : State) : u.SameOutputs (drainDone u) := {}

/-- TRANSMIT after a transaction (43_transmit R252..R261). -/
theorem transmitResume_sameOutputs (st : TransmitStep) (s : State) : s.SameOutputs (transmitResume st s) := by
  cases st with
  | drain rs => exact receiveResume_sameOutputs drainDone_sameOutputs rs s
  | _ => exact {}

/-- What follows a transaction writes no pin and makes no exchange. -/
theorem resume_sameOutputs (s : State) : s.SameOutputs (resume s) := by
  cases hp : s.phase with
  | busy b =>
    rw [resume_of_busy hp]
    cases b with
    | init st => exact initResume_sameOutputs st s
    | transmit st => exact transmitResume_sameOutputs st s
    | receive rs => exact receiveResume_sameOutputs receiveDone_sameOutputs rs s
    | ackFlush _ | ackPreload _ | query _ | setFrequency _ => exact {}
  | uninit | idle | faulted c =>
    rw [resume_of_not_busy (by simp [hp])]
    exact {}

/-! ## The receive procedure's steps -/

/-- A running operation's transaction in a step, whatever the link answers: the pins keep their levels, and what is
recorded is the window's actions. -/
theorem step_command_outputs {s t : State} {b : Busy} {i : Instr} (hp : s.phase = .busy b)
    (hm : busyMicro b s = .command i s) (h : step s = .next t) :
    t.ce = s.ce ∧ t.csn = s.csn ∧ ∃ es, t.trace = es ++ s.trace ∧ ∀ e ∈ es, e.OfWindow s.params i := by
  have he := exec_eq_transact i s
  simp only [step, nextMicro, hp, hm, he] at h
  cases h
  obtain ⟨⟨hce, -⟩, hcsn, -⟩ := commandFrame i s _ he
  obtain ⟨es, htrace, hes⟩ := exec_trace he
  obtain ⟨ce, csn, trace⟩ := resume_sameOutputs (s.transact (commandByte s.params i) (transferOf i))
  exact ⟨ce.trans hce, csn.trans hcsn, es, trace.trans htrace, hes⟩

/-- Everything a running operation's step can be: an update, or a transaction asked on the state as it is. -/
theorem busyMicro_of_step {s t : State} {b : Busy} (hp : s.phase = .busy b) (h : step s = .next t) :
    busyMicro b s = .update t ∨ ∃ i, busyMicro b s = .command i s := by
  obtain hm | ⟨i, s₁, hm, -⟩ := step_cases h
  · rw [nextMicro, hp] at hm
    exact .inl hm
  · rw [nextMicro, hp] at hm
    obtain rfl := busyMicro_command hm
    exact .inr ⟨i, hm⟩

/-- RECEIVE and DRAIN run the receive procedure (43_transmit R259; 44_receive_and_queries R301). -/
structure PlacesReceive (wrap : ReceiveStep → Busy) (done : State → State) : Prop where
  micro : ∀ rs s, busyMicro (wrap rs) s = receiveMicro wrap done rs s
  resume : ∀ rs s, busyResume (wrap rs) s = receiveResume wrap done rs s
  outputs : ∀ u : State, u.SameOutputs (done u)

theorem receive_placesReceive : PlacesReceive .receive receiveDone where
  micro _ _ := rfl
  resume _ _ := rfl
  outputs := receiveDone_sameOutputs

theorem drain_placesReceive : PlacesReceive drainWrap drainDone where
  micro _ _ := rfl
  resume _ _ := rfl
  outputs := drainDone_sameOutputs

/-- A step of the receive procedure keeps the pins' levels and records the window of a command that reads, or nothing
(44_receive_and_queries R312). -/
theorem PlacesReceive.step_outputs {wrap : ReceiveStep → Busy} {done : State → State}
    (places : PlacesReceive wrap done) {s t : State} {rs : ReceiveStep} (hp : s.phase = .busy (wrap rs))
    (h : step s = .next t) :
    t.ce = s.ce ∧ t.csn = s.csn ∧ ∃ es, t.trace = es ++ s.trace ∧
      ∀ e ∈ es, ∃ i, (transferOf i).isRead = true ∧ e.OfWindow s.params i := by
  obtain hm | ⟨i, hm⟩ := busyMicro_of_step hp h
  · rw [places.micro] at hm
    obtain ⟨ce, csn, trace⟩ := receiveMicro_update_sameOutputs places.outputs hm
    exact ⟨ce, csn, [], trace, nofun⟩
  · obtain ⟨ce, csn, es, trace, hes⟩ := step_command_outputs hp hm h
    rw [places.micro] at hm
    exact ⟨ce, csn, es, trace, fun e he => ⟨i, receiveMicro_command_isRead hm, hes e he⟩⟩

/-- No action of a reading command's window writes CE, or exchanges the command byte of a WRITE or a flush. -/
theorem Event.OfWindow.of_isRead {p : Params} {i : Instr} {e : Event} (he : e.OfWindow p i) (h : p.Unambiguous)
    (reads : (transferOf i).isRead = true) :
    (∀ v, e ≠ .pin .ce v) ∧ ∀ j : Instr, j.clearsOrFlushes → ∀ r, e ≠ .exchange [commandByte p j] r := by
  refine ⟨fun v hv => ?_, fun j hj r hr => ?_⟩
  · subst hv
    cases he
  · obtain ⟨command, data⟩ := isRead_sends_ne h reads hj
    cases he with
    | select v => cases hr
    | command answer => exact command (Event.exchange.inj hr).1
    | data answer => exact data (Event.exchange.inj hr).1

/-- Settles O42: a step of the procedure adds the window of a command that reads, or nothing, and a reading command
sends its own command byte and NOP command bytes, which the value set tells from a STATUS write's and a flush's. -/
theorem receiveLeavesFlagsAndPins : Obligations.ReceiveLeavesFlagsAndPins := by
  intro s t st unambiguous hp h
  have outputs : t.ce = s.ce ∧ t.csn = s.csn ∧ ∃ es, t.trace = es ++ s.trace ∧
      ∀ e ∈ es, ∃ i, (transferOf i).isRead = true ∧ e.OfWindow s.params i := by
    obtain hp | hp := hp
    · exact receive_placesReceive.step_outputs hp h
    · exact drain_placesReceive.step_outputs hp h
  obtain ⟨ce, csn, es, trace, reads⟩ := outputs
  refine ⟨ce, csn, es, trace, fun e he => ?_⟩
  obtain ⟨i, read, window⟩ := reads e he
  obtain ⟨pin, sends⟩ := window.of_isRead unambiguous read
  exact ⟨pin, fun r => ⟨sends .flushTx (.inr (.inl rfl)) r, sends .flushRx (.inr (.inr rfl)) r,
    sends (.write .status []) (.inl rfl) r⟩⟩

end Sys2Proof.Machine
end

section
/-! SUPPORT. The receive procedure step by step (44_receive_and_queries R301..R303), in RECEIVE and in DRAIN. -/

namespace Sys2Proof.Machine

/-! ## The procedure's exits -/

/-- After DRAIN the transmit goes to the phase the request selects (43_transmit R260). -/
theorem drainDone_eq (s : State) : drainDone s = s.setPhase (afterDrain s) := txGoto_ite ..

/-- The statement's own reading of a known width is the model's. -/
theorem widthKnown_eq_afterWidth (wrap : ReceiveStep → Busy) (done : State → State) (w : Nat) (s : State) :
    widthKnown wrap done w s = afterWidth w s (.busy (wrap (.payload w))) (done (s.setAckLen 0)) := rfl

theorem State.storeAck_ackLen (w : Nat) (data : List Byte) (s : State) : (s.storeAck w data).ackLen = w := rfl

/-- The bytes just stored are the first of the buffer (44_receive_and_queries R302). -/
theorem State.storeAck_take {w : Nat} {data : List Byte} (length : data.length = w) (s : State) :
    (s.storeAck w data).ackBuf.take w = data :=
  List.take_left' length

/-- RECEIVE returns the bytes just stored (44_receive_and_queries R301, R302). -/
theorem receiveDone_storeAck {w : Nat} {data : List Byte} (length : data.length = w) (s : State) :
    receiveDone (s.storeAck w data) = (s.storeAck w data).finish .idle (.received w data) := by
  rw [receiveDone, State.storeAck_ackLen, State.storeAck_take length]

theorem State.nextData_length (s : State) (n : Nat) : (s.nextData n).length = n := by
  simp [State.nextData]

/-- What a completed READ_PAYLOAD leaves, the bytes of its data block received. -/
theorem completed_readPayload (s : State) (w : Nat) :
    s.completed (commandByte s.params (.readPayload w)) (dataBlock s.params (.readPayload w))
        (transferOf (.readPayload w)).isRead =
      s.completed s.params.cmd.readPayload (List.replicate w s.params.cmd.nop) true := rfl

theorem completed_readPayload_rxData (s : State) (cmd fill : Byte) (w : Nat) :
    (s.completed cmd (List.replicate w fill) true).rxData = s.nextData w := by
  simp [State.completed]

/-! ## The procedure's steps -/

section Steps

variable {wrap : ReceiveStep → Busy} {done : State → State} {s : State}

/-- The length's micro-step, by the configuration (44_receive_and_queries R302). -/
theorem receiveMicro_length {c : RadioConfiguration} (hcfg : s.cfg = some c) :
    receiveMicro wrap done .length s = if c.dynamicPayload then .command .readPayloadWidth s
      else .update (widthKnown wrap done c.staticPayloadWidth s) := by
  rw [receiveMicro, State.config_eq hcfg]

/-- The pipe test (44_receive_and_queries R301). -/
theorem PlacesReceive.step_status (places : PlacesReceive wrap done) (hp : s.phase = .busy (wrap .status))
    (hc : s.csn = true) (answers : s.exchangesSucceed 2) :
    step s = .next (if (decodeStatus s.params.bits s.nextByte).pipe = 0
      then (s.completedRead s.params.reg.status).setPhase (.busy (wrap .length))
      else done ((s.completedRead s.params.reg.status).setAckLen 0)) := by
  rw [step_reads hp (places.micro .status s) hc answers, places.resume]
  refine congrArg _ (if_congr ?_ rfl rfl)
  exact beq_iff_eq

/-- The chip's width, where dynamic payloads are on (44_receive_and_queries R302, R303). -/
theorem PlacesReceive.step_dynamicLength (places : PlacesReceive wrap done) {c : RadioConfiguration}
    (hp : s.phase = .busy (wrap .length)) (hcfg : s.cfg = some c) (dynamic : c.dynamicPayload = true)
    (hc : s.csn = true) (answers : s.exchangesSucceed 2) :
    step s = .next (widthKnown wrap done s.nextByte.toNat
      (s.completed s.params.cmd.readPayloadWidth [s.params.cmd.nop] true)) := by
  have hm : busyMicro (wrap .length) s = .command .readPayloadWidth s :=
    (places.micro .length s).trans ((receiveMicro_length hcfg).trans (if_pos dynamic))
  rw [step_completes hp hm hc (answers.mono (exchangeCount_le _)), places.resume]
  rfl

/-- The configured width, with no transaction (44_receive_and_queries R302). -/
theorem PlacesReceive.step_staticLength (places : PlacesReceive wrap done) {c : RadioConfiguration}
    (hp : s.phase = .busy (wrap .length)) (hcfg : s.cfg = some c) (static : c.dynamicPayload = false) :
    step s = .next (widthKnown wrap done c.staticPayloadWidth s) :=
  step_of_update hp ((places.micro .length s).trans
    ((receiveMicro_length hcfg).trans (if_neg (Bool.eq_false_iff.mp static))))

/-- The read, stored from the buffer's start (44_receive_and_queries R302). -/
theorem PlacesReceive.step_payload (places : PlacesReceive wrap done) {w : Nat}
    (hp : s.phase = .busy (wrap (.payload w))) (hc : s.csn = true) (answers : s.exchangesSucceed 2) :
    step s = .next (done ((s.completed s.params.cmd.readPayload (List.replicate w s.params.cmd.nop) true).storeAck w
      (s.nextData w))) := by
  rw [step_completes hp (places.micro (.payload w) s) hc (answers.mono (exchangeCount_le _)), places.resume,
    completed_readPayload, receiveResume, completed_readPayload_rxData]

end Steps

/-! ## The statements -/

/-- Settles O39, by the pipe test's branches in RECEIVE and in DRAIN. -/
theorem receivePipeTest : Obligations.ReceivePipeTest := by
  refine fun s hc answers => ⟨fun hp => ?_, fun hp => ?_⟩
  · have taken := receive_placesReceive.step_status hp hc answers
    exact ⟨fun other => by rw [taken, if_neg other]; rfl, fun pipe0 => by rw [taken, if_pos pipe0]; rfl⟩
  · have taken := drain_placesReceive.step_status hp hc answers
    refine ⟨fun other => ?_, fun pipe0 => ?_⟩
    · rw [taken, if_neg other, drainDone_eq]
      rfl
    · rw [taken, if_pos pipe0]
      rfl

/-- Settles O40: both sources of the width lead to the one test of it. -/
theorem receiveLength : Obligations.ReceiveLength := by
  refine fun s c hcfg => ⟨fun dynamic hc answers => ⟨fun hp => ?_, fun hp => ?_⟩,
    fun static => ⟨fun hp => ?_, fun hp => ?_⟩⟩
  · exact receive_placesReceive.step_dynamicLength hp hcfg dynamic hc answers
  · rw [drain_placesReceive.step_dynamicLength hp hcfg dynamic hc answers, widthKnown_eq_afterWidth, drainDone_eq]
    rfl
  · exact receive_placesReceive.step_staticLength hp hcfg static
  · rw [drain_placesReceive.step_staticLength hp hcfg static, widthKnown_eq_afterWidth, drainDone_eq]
    rfl

/-- Settles O41: the bytes received are stored whole, and RECEIVE returns them. -/
theorem receiveStoresPayload : Obligations.ReceiveStoresPayload := by
  refine fun s w _ hc answers => ⟨fun hp => ?_, fun hp => ?_⟩
  · rw [receive_placesReceive.step_payload hp hc answers, receiveDone_storeAck (s.nextData_length w)]
    rfl
  · rw [drain_placesReceive.step_payload hp hc answers, drainDone_eq]
    rfl

end Sys2Proof.Machine
end

section
/-! SUPPORT. The queries, SET_FREQUENCY and WRITE_ACK_PAYLOAD (44_receive_and_queries R304..R311): how the host port
takes them, and their transactions. -/

namespace Sys2Proof.Machine

/-! ## Taking an operation -/

/-- On an initialized block at rest an operation with an operand check goes as the check says (60_exceptions R371). -/
theorem step_of_checked {s t : State} {op : HostOp} {ops : List HostOp} {ok : Bool} {e : OpError} {admitted : Prop}
    (hr : s.resting) (hc : s.channelCall = none) (hq : s.requests = op :: ops) (init : s.initialized = true)
    (ha : accept op (s.setRequests ops) = whenInitialized (s.setRequests ops)
      (whenAdmitted ok e (s.setRequests ops) (.update t))) (check : ok = true ↔ admitted) :
    (¬ admitted → step s = .next ((s.setRequests ops).pushResult (.error e))) ∧ (admitted → step s = .next t) := by
  have checked := ha.trans (if_pos init)
  rw [whenAdmitted, (s.setRequests ops).raise_resting _ hr] at checked
  exact ⟨fun refused => step_of_accept hr hc hq (checked.trans (if_neg (mt check.mp refused))),
    fun meets => step_of_accept hr hc hq (checked.trans (if_pos (check.mpr meets)))⟩

/-- Settles O49: on an initialized block these operations have no other check. -/
theorem readingOperationsStart : Obligations.ReadingOperationsStart := by
  intro s ops hr hc init
  and_intros <;> exact fun hq => step_of_accept hr hc hq (if_pos init)

/-- Settles O50: the operation is taken without a check and returns at once. -/
theorem linkStatsReturned : Obligations.LinkStatsReturned :=
  fun _ _ hr hc hq => step_of_accept hr hc hq rfl

/-! ## The transactions -/

/-- Settles O46: a query is one register read, and returns the byte read decoded. -/
theorem queriesReturnDecodedByte : Obligations.QueriesReturnDecodedByte := by
  refine ⟨fun s hc answers => ?_, rfl, rfl, rfl, rfl, rfl, rfl, rfl, rfl, rfl⟩
  and_intros <;> exact fun hp => step_reads hp rfl hc answers

/-- Settles O47: the range check, the write of RF_CH, and the channel at bit 0, which fits the byte. -/
theorem setFrequencyWritesChannel : Obligations.SetFrequencyWritesChannel := by
  refine ⟨fun s mhz ops => ⟨fun hr hc hq init => ?_, fun hp hc answers => ?_⟩, fun mhz least most => ?_⟩
  · obtain ⟨refused, taken⟩ := step_of_checked hr hc hq init rfl (frequencyAdmitted_iff mhz)
    exact ⟨fun outside => refused (by omega), fun least most => taken ⟨least, most⟩⟩
  · exact step_writes .rfCh [channelOf s.params.bits mhz] hp rfl hc answers
  · have fits : mhz - 2400 < 256 := by omega
    exact fieldAt_zero_toNat fits

/-- Pipe 0's acknowledgment command is the tag alone (30_encoding R106). -/
theorem composeAckCommand_p0 (c : CommandSet) : composeAckCommand c .p0 = c.writeAckPayload.setWidth 8 <<< 3 :=
  BitVec.or_zero

/-- Settles O48: the length check, then FLUSH_TX and the write tagged for pipe 0. -/
theorem ackPayloadPreloaded : Obligations.AckPayloadPreloaded := by
  refine fun s p ops => ⟨fun hr hc hq init => ?_, fun hc answers => ⟨fun hp => ?_, fun hp => ?_⟩⟩
  · obtain ⟨refused, taken⟩ := step_of_checked hr hc hq init rfl (payloadAdmitted_iff p)
    exact ⟨fun outside => refused (by omega), fun least most => taken ⟨least, most⟩⟩
  · exact step_completes hp rfl hc (answers.mono (exchangeCount_le _))
  · rw [step_completes hp rfl hc (answers.mono (exchangeCount_le _)), commandByte, composeAckCommand_p0]
    rfl

end Sys2Proof.Machine
end

section
/-! SUPPORT. ACCOUNT (45_link_quality R341..R347): the failure test and its transaction, the commit, the quality. -/

namespace Sys2Proof.Machine

/-! ## The quality -/

theorem quality_of_le {sent lost : Nat} (h : sent ≤ lost) : quality sent lost = 0 := if_pos h

theorem quality_of_lt {sent lost : Nat} (h : lost < sent) : quality sent lost = 100 * (sent - lost) / sent :=
  if_neg h.not_ge

/-- Settles O45: the quotient rounded toward zero is the one that its two bounds give. -/
theorem qualityFormula : Obligations.QualityFormula := by
  refine fun sent lost => ⟨quality_le sent lost, quality_of_le, fun h => ?_⟩
  have positive : 0 < sent := Nat.zero_lt_of_lt h
  rw [quality_of_lt h]
  exact ⟨Nat.div_mul_le_self _ _, Nat.lt_mul_of_div_lt (Nat.lt_succ_self _) positive⟩

/-! ## The transaction -/

/-- Total failure: MAX_RETRANSMIT, or neither of the other flags (45_link_quality R342). -/
theorem Flags.failed_iff (f : Flags) :
    f.failed = true ↔ f.maxRetransmit = true ∨ (f.dataReady = false ∧ f.dataSent = false) := by
  obtain ⟨ready, sent, max⟩ := f
  cases max <;> simp [Flags.failed, Flags.any]

/-- A delivery: some flag, and not MAX_RETRANSMIT (45_link_quality R342). -/
theorem Flags.not_failed_iff (f : Flags) :
    ¬ f.failed = true ↔ f.maxRetransmit = false ∧ (f.dataReady = true ∨ f.dataSent = true) := by
  rw [f.failed_iff, not_or, not_and_or, Bool.not_eq_true, Bool.not_eq_false, Bool.not_eq_false]

theorem transmitMicro_account_failed {s : State} (failed : s.finalFlags.failed = true) :
    transmitMicro .account s = .command .flushTx s :=
  congrArg (Micro.command · s) (if_pos failed)

theorem transmitMicro_account_delivered {s : State} (delivered : ¬ s.finalFlags.failed = true) :
    transmitMicro .account s = .command (.read .observeTx 1) s :=
  congrArg (Micro.command · s) (if_neg delivered)

theorem transmitResume_account_failed {s : State} (failed : s.finalFlags.failed = true) :
    transmitResume .account s = s.txGoto (.commit none) :=
  congrArg (fun r => s.txGoto (.commit r)) (if_pos failed)

theorem transmitResume_account_delivered {s : State} (delivered : ¬ s.finalFlags.failed = true) :
    transmitResume .account s = s.txGoto (.commit (some (retransmits s.params.bits s.rxByte))) :=
  congrArg (fun r => s.txGoto (.commit r)) (if_neg delivered)

/-- Settles O43: the micro-step before the transaction and the one after it make the same test, because a completed
transaction leaves the final status as it was. -/
theorem accountTransaction : Obligations.AccountTransaction := by
  refine fun s hp hc answers => ⟨fun fails => ?_, fun noMax someFlag => ?_⟩
  · have failed : s.finalFlags.failed = true := (Flags.failed_iff _).mpr fails
    rw [step_completes hp (transmitMicro_account_failed failed) hc (answers.mono (exchangeCount_le _))]
    exact congrArg _ (transmitResume_account_failed failed)
  · have delivered : ¬ s.finalFlags.failed = true := (Flags.not_failed_iff _).mpr ⟨noMax, someFlag⟩
    rw [step_reads hp (transmitMicro_account_delivered delivered) hc answers]
    exact congrArg _ (transmitResume_account_delivered delivered)

/-! ## The commit -/

/-- The commit is one update under the latched configuration (45_link_quality R347). -/
theorem step_commit {s : State} {c : RadioConfiguration} {retries : Option Nat} (hcfg : s.cfg = some c)
    (hp : s.phase = .busy (.transmit (.commit retries))) :
    step s = .next ((s.account c retries).txGoto .rearm) := by
  rw [step_of_update hp rfl, State.config_eq hcfg]

theorem account_open {s : State} {c : RadioConfiguration} (retries : Option Nat)
    (h : s.stats.sent + attemptCharge c < 100 * attemptCharge c) :
    s.account c retries =
      s.setStats ⟨s.stats.sent + attemptCharge c, s.stats.lost + lostCharge c retries, s.stats.quality⟩ :=
  congrArg s.setStats (if_neg h.not_ge)

theorem account_closed {s : State} {c : RadioConfiguration} (retries : Option Nat)
    (h : s.stats.sent + attemptCharge c ≥ 100 * attemptCharge c) :
    s.account c retries =
      s.setStats ⟨0, 0, quality (s.stats.sent + attemptCharge c) (s.stats.lost + lostCharge c retries)⟩ :=
  congrArg s.setStats (if_pos h)

/-- Settles O44, by the window's two cases. -/
theorem accountCommit : Obligations.AccountCommit := by
  refine fun s c retries hcfg hp => ⟨fun stays => ?_, fun closes => ?_⟩
  · rw [step_commit hcfg hp, account_open retries stays]
    rfl
  · rw [step_commit hcfg hp, account_closed retries closes]
    rfl

end Sys2Proof.Machine
end

section
/-! SUPPORT. Errors and faults: a failed exchange of a running operation, the stopped and the waiting block, and
NOT_INITIALIZED before every other check (60_exceptions R370..R373; 70_reset_and_hazards R403). -/

namespace Sys2Proof.Machine

/-! ## IO_ERROR in a running operation -/

/-- The failure of either exchange ends the transaction as 60_exceptions R372 says. -/
theorem exec_failure_ends {i : Instr} {s : State} (hc : s.csn = true)
    (fails : s.env.failAt 0 = true ∨ (dataBlock s.params i ≠ [] ∧ s.env.failAt 1 = true)) :
    ∃ t, exec i s = .next t ∧ s.ioErrorEnd t ∧ s.sameRegisters t := by
  by_cases h0 : s.env.failAt 0 = true
  · obtain ⟨t, he, ended, same, -⟩ := commandByteFailureEnds i s hc h0
    exact ⟨t, he, ended, same⟩
  · obtain ⟨block, h1⟩ := fails.resolve_left h0
    obtain ⟨t, he, ended, same, -⟩ := dataBlockFailureEnds i s hc block (Bool.eq_false_iff.mpr h0) h1
    exact ⟨t, he, ended, same⟩

/-- An operation that IO_ERROR ended runs no longer: the phase is UNINIT or IDLE. -/
theorem State.ioErrorEnd.not_busy {s t : State} {b : Busy} (h : s.ioErrorEnd t) (hp : s.phase = .busy b)
    (b' : Busy) : t.phase ≠ .busy b' := by
  obtain ⟨-, -, ends⟩ := h
  rw [hp] at ends
  cases b <;> simp [ends.1]

/-- Settles O52: the failed transaction leaves no operation running, so the step adds nothing to it. -/
theorem ioErrorEndsOperation : Obligations.IoErrorEndsOperation := by
  intro s b i hp hm hc fails
  obtain ⟨t, he, ended, same⟩ := exec_failure_ends hc fails
  obtain ⟨hs, -, stays⟩ := stepRunsOperationCommand s t b i hp hm he
  exact ⟨t, by rw [hs, stays (ended.not_busy hp)], ended, same⟩

/-! ## The stopped block and the waiting block -/

/-- The step in FAULTED is the fault, with its code (60_exceptions R373). -/
theorem step_of_faulted {s : State} {c : FaultCode} (hp : s.phase = .faulted c) : step s = .fault (.stopped c) := by
  simp only [step, nextMicro, hp]

/-- At rest with nothing asked of it the block answers its own state (70_reset_and_hazards R403). -/
theorem step_of_waiting {s : State} (hr : s.resting) (hc : s.channelCall = none) (hq : s.requests = []) :
    step s = .next s := by
  obtain hp | hp := hr <;> simp only [step, nextMicro, hp, restMicro, hc, hq]

/-- Settles O25, one lemma for each of its clauses. -/
theorem faultedStopsAndRestWaits : Obligations.FaultedStopsAndRestWaits :=
  ⟨fun _ _ => step_of_faulted, fun _ _ => step_fault, fun _ => step_of_waiting⟩

/-! ## NOT_INITIALIZED -/

/-- On a block not initialized every operation but INITIALIZE and GET_LINK_STATS meets that check first, whatever its
operands (60_exceptions R371). -/
theorem accept_of_not_initialized {op : HostOp} {s : State} (uninit : s.initialized = false)
    (noInit : ∀ c, op ≠ .init c) (noStats : op ≠ .getLinkStats) :
    accept op s = .update (s.raise .notInitialized) := by
  have refused (k : Micro) : whenInitialized s k = .update (s.raise .notInitialized) :=
    if_neg (Bool.eq_false_iff.mp uninit)
  cases op with
  | init c => exact absurd rfl (noInit c)
  | getLinkStats => exact absurd rfl noStats
  | _ => exact refused _

/-- A result that is no error has the code 0 (60_exceptions R370). -/
theorem HostResult.code_of_not_error {r : HostResult} (h : ∀ e, r ≠ .error e) : r.code = 0 := by
  cases r with
  | error e => exact absurd rfl (h e)
  | _ => rfl

/-- Settles O51: the check at the host port, and the table of codes. -/
theorem notInitializedComesFirst : Obligations.NotInitializedComesFirst := by
  refine ⟨fun s op ops hr hc hq uninit noInit noStats => ?_, rfl, fun _ => rfl, rfl, fun _ => rfl,
    fun _ => HostResult.code_of_not_error⟩
  have taken : accept op (s.setRequests ops) = .update ((s.setRequests ops).raise .notInitialized) :=
    accept_of_not_initialized uninit noInit noStats
  rw [(s.setRequests ops).raise_resting _ hr] at taken
  exact step_of_accept hr hc hq taken

end Sys2Proof.Machine
end

section
/-! SUPPORT. The block at power-on (70_reset_and_hazards R400, 10_state R40). -/

namespace Sys2Proof.Machine

/-- Settles O26: each value of R40's table is the field `State.powerOn` writes, the pins its two arguments, and
`State.reset` is its instance at CSN 1, CE 0 and the default parameters. -/
theorem powerOnValues : Obligations.PowerOnValues :=
  ⟨fun _ _ _ => ⟨rfl, rfl, rfl, rfl, rfl, rfl, rfl, rfl⟩, rfl⟩

end Sys2Proof.Machine
end
